-- ==== Sys2Proof/Word.lean ====
section
/-! DEFINITION. The machine's words: the byte of every memory cell and 8-bit register, and the 16-bit
address (spec/00_scope.md R7, spec/20_memory.md R50). -/

namespace Sys2Proof

/-- One byte (`A`, `P`, every cell of memory). -/
abbrev Byte := BitVec 8

/-- A 16-bit address; also the width of `pc` and `SP` (R20, R22, R50). -/
abbrev Addr := BitVec 16

/-- The 64-bit unsigned cycle counter's word (R24). -/
abbrev CycleCount := BitVec 64

/-- One pixel of a frame: three 8-bit channels (R131). -/
structure Pixel where
  c0 : Byte
  c1 : Byte
  c2 : Byte
  deriving DecidableEq, Repr, Inhabited

end Sys2Proof
end

