-- ==== Sys2Proof/Syntax.lean ====
section
/-! DEFINITION. The instructions, one constructor per row of spec/opcode_table.json in the table's order
(spec/30_encoding.md R84, R85), and the assembler lines the spec writes its programs in (R89). -/

namespace Sys2Proof

/-- The 256 opcodes. `brk` is 0x00, `ldaImm` 0xA9 with its operand byte (format `IMM8`, R82), `nop` 0xEA; `undHH` is
the unassigned opcode HH (R116). Every constructor but `ldaImm` has format `IMP` (R81). -/
inductive Instr where
  | brk
  | und01
  | und02
  | und03
  | und04
  | und05
  | und06
  | und07
  | und08
  | und09
  | und0A
  | und0B
  | und0C
  | und0D
  | und0E
  | und0F
  | und10
  | und11
  | und12
  | und13
  | und14
  | und15
  | und16
  | und17
  | und18
  | und19
  | und1A
  | und1B
  | und1C
  | und1D
  | und1E
  | und1F
  | und20
  | und21
  | und22
  | und23
  | und24
  | und25
  | und26
  | und27
  | und28
  | und29
  | und2A
  | und2B
  | und2C
  | und2D
  | und2E
  | und2F
  | und30
  | und31
  | und32
  | und33
  | und34
  | und35
  | und36
  | und37
  | und38
  | und39
  | und3A
  | und3B
  | und3C
  | und3D
  | und3E
  | und3F
  | und40
  | und41
  | und42
  | und43
  | und44
  | und45
  | und46
  | und47
  | und48
  | und49
  | und4A
  | und4B
  | und4C
  | und4D
  | und4E
  | und4F
  | und50
  | und51
  | und52
  | und53
  | und54
  | und55
  | und56
  | und57
  | und58
  | und59
  | und5A
  | und5B
  | und5C
  | und5D
  | und5E
  | und5F
  | und60
  | und61
  | und62
  | und63
  | und64
  | und65
  | und66
  | und67
  | und68
  | und69
  | und6A
  | und6B
  | und6C
  | und6D
  | und6E
  | und6F
  | und70
  | und71
  | und72
  | und73
  | und74
  | und75
  | und76
  | und77
  | und78
  | und79
  | und7A
  | und7B
  | und7C
  | und7D
  | und7E
  | und7F
  | und80
  | und81
  | und82
  | und83
  | und84
  | und85
  | und86
  | und87
  | und88
  | und89
  | und8A
  | und8B
  | und8C
  | und8D
  | und8E
  | und8F
  | und90
  | und91
  | und92
  | und93
  | und94
  | und95
  | und96
  | und97
  | und98
  | und99
  | und9A
  | und9B
  | und9C
  | und9D
  | und9E
  | und9F
  | undA0
  | undA1
  | undA2
  | undA3
  | undA4
  | undA5
  | undA6
  | undA7
  | undA8
  | ldaImm (imm8 : Byte)
  | undAA
  | undAB
  | undAC
  | undAD
  | undAE
  | undAF
  | undB0
  | undB1
  | undB2
  | undB3
  | undB4
  | undB5
  | undB6
  | undB7
  | undB8
  | undB9
  | undBA
  | undBB
  | undBC
  | undBD
  | undBE
  | undBF
  | undC0
  | undC1
  | undC2
  | undC3
  | undC4
  | undC5
  | undC6
  | undC7
  | undC8
  | undC9
  | undCA
  | undCB
  | undCC
  | undCD
  | undCE
  | undCF
  | undD0
  | undD1
  | undD2
  | undD3
  | undD4
  | undD5
  | undD6
  | undD7
  | undD8
  | undD9
  | undDA
  | undDB
  | undDC
  | undDD
  | undDE
  | undDF
  | undE0
  | undE1
  | undE2
  | undE3
  | undE4
  | undE5
  | undE6
  | undE7
  | undE8
  | undE9
  | nop
  | undEB
  | undEC
  | undED
  | undEE
  | undEF
  | undF0
  | undF1
  | undF2
  | undF3
  | undF4
  | undF5
  | undF6
  | undF7
  | undF8
  | undF9
  | undFA
  | undFB
  | undFC
  | undFD
  | undFE
  | undFF
  deriving DecidableEq, Repr

/-- One line of the assembler syntax of R89. Numbers are as written, so a line can be ill-formed
(`AsmLine.wellFormed` in WellFormed.lean). -/
inductive AsmLine where
  /-- `LDA #$hh` or `LDA #n`. -/
  | lda (n : Nat)
  /-- `NOP`. -/
  | nop
  /-- `BRK`. -/
  | brk
  /-- `UND $hh`, an unassigned opcode given by value. -/
  | und (hh : Nat)
  /-- `.byte $hh, ...`, raw data. -/
  | data (hhs : List Nat)
  /-- `.org $hhhh`, the address of the next byte. -/
  | org (address : Nat)
  /-- `; text`. -/
  | comment (text : String)
  deriving DecidableEq, Repr

end Sys2Proof
end

