-- ==== Sys2Proof/WellFormed.lean ====
section
/-! DEFINITION. What a term of the syntax must meet. An instruction needs no check: its one operand is a byte by type, and no
encoding is illegal (spec/30_encoding.md R83, R86). The checks are on assembler lines, whose numbers are as written (R89). -/

namespace Sys2Proof

/-- Every instruction is well-formed (R86): the operand of `ldaImm` may take all 256 values and no opcode is reserved. -/
def Instr.wellFormed : Instr → Bool := fun _ => true

/-- A number that two hexadecimal digits write. -/
def isByteValue (n : Nat) : Bool := n < 256

/-- The opcodes `UND $hh` may not name (R89). -/
def isAssignedOpcode (n : Nat) : Bool := n == 0x00 || n == 0xA9 || n == 0xEA

/-- A line of R89: `LDA` takes 0 to 255, `UND` an unassigned opcode, `.byte` bytes, `.org` four hexadecimal digits. -/
def AsmLine.wellFormed : AsmLine → Bool
  | .lda n => isByteValue n
  | .nop => true
  | .brk => true
  | .und hh => isByteValue hh && !isAssignedOpcode hh
  | .data hhs => hhs.all isByteValue
  | .org address => address < 0x10000
  | .comment _ => true

/-- How many bytes a line stands for (R89). -/
def AsmLine.size : AsmLine → Nat
  | .lda _ => 2
  | .nop => 1
  | .brk => 1
  | .und _ => 1
  | .data hhs => hhs.length
  | .org _ => 0
  | .comment _ => 0

/-- The lines from the address `here` on: each well-formed, and a further `.org` only where it names the address already
reached. DESIGN CHOICE (log entry 27): the spec does not say what a jump in `.org` would put in between; safe. -/
def asmWellFormedFrom (here : Nat) : List AsmLine → Bool
  | [] => true
  | line :: lines =>
    line.wellFormed && (match line with | .org address => address == here | _ => true) &&
      asmWellFormedFrom (here + line.size) lines

/-- A whole program: comments apart, it starts with `.org $8000` (R89). -/
def asmWellFormed : List AsmLine → Bool
  | .comment _ :: lines => asmWellFormed lines
  | .org address :: lines => address == 0x8000 && asmWellFormedFrom 0x8000 lines
  | _ => false

end Sys2Proof
end

