-- ==== Sys2Proof/Decode.lean ====
section
/-! DEFINITION. Decoding and encoding (spec/30_encoding.md). The opcode map is the 16 by 16 matrix of R84: row = high
four bits, column = low four bits of the opcode byte. Decoding depends on the bytes alone (R87, R102). -/

namespace Sys2Proof

/-! ### Decoder -/

/-- A row entry of format `IMP` (R81): the operand byte is not looked at. -/
def implied (i : Instr) : Byte → Instr := fun _ => i

/-- Opcodes 0x00 to 0x0F (R84). -/
def opcodeRow0 : List (Byte → Instr) :=
  [implied .brk, implied .und01, implied .und02, implied .und03,
   implied .und04, implied .und05, implied .und06, implied .und07,
   implied .und08, implied .und09, implied .und0A, implied .und0B,
   implied .und0C, implied .und0D, implied .und0E, implied .und0F]

/-- Opcodes 0x10 to 0x1F (R84). -/
def opcodeRow1 : List (Byte → Instr) :=
  [implied .und10, implied .und11, implied .und12, implied .und13,
   implied .und14, implied .und15, implied .und16, implied .und17,
   implied .und18, implied .und19, implied .und1A, implied .und1B,
   implied .und1C, implied .und1D, implied .und1E, implied .und1F]

/-- Opcodes 0x20 to 0x2F (R84). -/
def opcodeRow2 : List (Byte → Instr) :=
  [implied .und20, implied .und21, implied .und22, implied .und23,
   implied .und24, implied .und25, implied .und26, implied .und27,
   implied .und28, implied .und29, implied .und2A, implied .und2B,
   implied .und2C, implied .und2D, implied .und2E, implied .und2F]

/-- Opcodes 0x30 to 0x3F (R84). -/
def opcodeRow3 : List (Byte → Instr) :=
  [implied .und30, implied .und31, implied .und32, implied .und33,
   implied .und34, implied .und35, implied .und36, implied .und37,
   implied .und38, implied .und39, implied .und3A, implied .und3B,
   implied .und3C, implied .und3D, implied .und3E, implied .und3F]

/-- Opcodes 0x40 to 0x4F (R84). -/
def opcodeRow4 : List (Byte → Instr) :=
  [implied .und40, implied .und41, implied .und42, implied .und43,
   implied .und44, implied .und45, implied .und46, implied .und47,
   implied .und48, implied .und49, implied .und4A, implied .und4B,
   implied .und4C, implied .und4D, implied .und4E, implied .und4F]

/-- Opcodes 0x50 to 0x5F (R84). -/
def opcodeRow5 : List (Byte → Instr) :=
  [implied .und50, implied .und51, implied .und52, implied .und53,
   implied .und54, implied .und55, implied .und56, implied .und57,
   implied .und58, implied .und59, implied .und5A, implied .und5B,
   implied .und5C, implied .und5D, implied .und5E, implied .und5F]

/-- Opcodes 0x60 to 0x6F (R84). -/
def opcodeRow6 : List (Byte → Instr) :=
  [implied .und60, implied .und61, implied .und62, implied .und63,
   implied .und64, implied .und65, implied .und66, implied .und67,
   implied .und68, implied .und69, implied .und6A, implied .und6B,
   implied .und6C, implied .und6D, implied .und6E, implied .und6F]

/-- Opcodes 0x70 to 0x7F (R84). -/
def opcodeRow7 : List (Byte → Instr) :=
  [implied .und70, implied .und71, implied .und72, implied .und73,
   implied .und74, implied .und75, implied .und76, implied .und77,
   implied .und78, implied .und79, implied .und7A, implied .und7B,
   implied .und7C, implied .und7D, implied .und7E, implied .und7F]

/-- Opcodes 0x80 to 0x8F (R84). -/
def opcodeRow8 : List (Byte → Instr) :=
  [implied .und80, implied .und81, implied .und82, implied .und83,
   implied .und84, implied .und85, implied .und86, implied .und87,
   implied .und88, implied .und89, implied .und8A, implied .und8B,
   implied .und8C, implied .und8D, implied .und8E, implied .und8F]

/-- Opcodes 0x90 to 0x9F (R84). -/
def opcodeRow9 : List (Byte → Instr) :=
  [implied .und90, implied .und91, implied .und92, implied .und93,
   implied .und94, implied .und95, implied .und96, implied .und97,
   implied .und98, implied .und99, implied .und9A, implied .und9B,
   implied .und9C, implied .und9D, implied .und9E, implied .und9F]

/-- Opcodes 0xA0 to 0xAF (R84). -/
def opcodeRowA : List (Byte → Instr) :=
  [implied .undA0, implied .undA1, implied .undA2, implied .undA3,
   implied .undA4, implied .undA5, implied .undA6, implied .undA7,
   implied .undA8, .ldaImm, implied .undAA, implied .undAB,
   implied .undAC, implied .undAD, implied .undAE, implied .undAF]

/-- Opcodes 0xB0 to 0xBF (R84). -/
def opcodeRowB : List (Byte → Instr) :=
  [implied .undB0, implied .undB1, implied .undB2, implied .undB3,
   implied .undB4, implied .undB5, implied .undB6, implied .undB7,
   implied .undB8, implied .undB9, implied .undBA, implied .undBB,
   implied .undBC, implied .undBD, implied .undBE, implied .undBF]

/-- Opcodes 0xC0 to 0xCF (R84). -/
def opcodeRowC : List (Byte → Instr) :=
  [implied .undC0, implied .undC1, implied .undC2, implied .undC3,
   implied .undC4, implied .undC5, implied .undC6, implied .undC7,
   implied .undC8, implied .undC9, implied .undCA, implied .undCB,
   implied .undCC, implied .undCD, implied .undCE, implied .undCF]

/-- Opcodes 0xD0 to 0xDF (R84). -/
def opcodeRowD : List (Byte → Instr) :=
  [implied .undD0, implied .undD1, implied .undD2, implied .undD3,
   implied .undD4, implied .undD5, implied .undD6, implied .undD7,
   implied .undD8, implied .undD9, implied .undDA, implied .undDB,
   implied .undDC, implied .undDD, implied .undDE, implied .undDF]

/-- Opcodes 0xE0 to 0xEF (R84). -/
def opcodeRowE : List (Byte → Instr) :=
  [implied .undE0, implied .undE1, implied .undE2, implied .undE3,
   implied .undE4, implied .undE5, implied .undE6, implied .undE7,
   implied .undE8, implied .undE9, implied .nop, implied .undEB,
   implied .undEC, implied .undED, implied .undEE, implied .undEF]

/-- Opcodes 0xF0 to 0xFF (R84). -/
def opcodeRowF : List (Byte → Instr) :=
  [implied .undF0, implied .undF1, implied .undF2, implied .undF3,
   implied .undF4, implied .undF5, implied .undF6, implied .undF7,
   implied .undF8, implied .undF9, implied .undFA, implied .undFB,
   implied .undFC, implied .undFD, implied .undFE, implied .undFF]

/-- The opcode map of R84. -/
def opcodeMatrix : List (List (Byte → Instr)) :=
  [opcodeRow0, opcodeRow1, opcodeRow2, opcodeRow3] ++ [opcodeRow4, opcodeRow5, opcodeRow6, opcodeRow7] ++
  [opcodeRow8, opcodeRow9, opcodeRowA, opcodeRowB] ++ [opcodeRowC, opcodeRowD, opcodeRowE, opcodeRowF]

/-- Dispatch on the opcode byte (R102): total, and a function of the byte alone. `operand` is the byte that follows, which
only 0xA9 takes. The default of `getD` is never used: the matrix is 16 by 16. -/
def decodeInstr (op operand : Byte) : Instr :=
  ((opcodeMatrix.getD (op.toNat / 16) []).getD (op.toNat % 16) (implied .brk)) operand

/-- The length in bytes an opcode byte announces (R87): 2 for 0xA9, otherwise 1. -/
def lengthOf (op : Byte) : Nat := if op = 0xA9#8 then 2 else 1

/-- Why a list of bytes holds no whole instruction. No byte VALUE is ever rejected (R86); only a list that ends too soon. -/
inductive DecodeError where
  /-- There is no opcode byte. -/
  | noOpcode
  /-- The opcode 0xA9 is the last byte, so its operand is missing. -/
  | noOperand
  deriving DecidableEq, Repr

/-- The decoder on a list of bytes: the first instruction and the bytes after it (R80 to R82, R87). -/
def decode : List Byte → Except DecodeError (Instr × List Byte)
  | [] => .error .noOpcode
  | [op] => if lengthOf op = 2 then .error .noOperand else .ok (decodeInstr op 0x00#8, [])
  | op :: operand :: rest =>
    .ok (decodeInstr op operand, if lengthOf op = 2 then rest else operand :: rest)

/-- Byte `k` of a word numbered as spec/opcode_table.json numbers it (byte 0 is the opcode). -/
def tableByte (nbits w k : Nat) : Byte := BitVec.ofNat 8 (w % 2 ^ nbits / 256 ^ k)

/-- The decoder's answer for a word of the opcode table; bits from `nbits` up are 0. -/
def decodeTableWord (nbits w : Nat) : Option Instr :=
  match decode [tableByte nbits w 0, tableByte nbits w 1] with
  | .ok (i, _) => some i
  | .error _ => none

/-! ### Encoder -/

/-- The opcode byte of an instruction (R84). -/
def Instr.opcode : Instr → Byte
  | .brk => 0x00#8
  | .und01 => 0x01#8
  | .und02 => 0x02#8
  | .und03 => 0x03#8
  | .und04 => 0x04#8
  | .und05 => 0x05#8
  | .und06 => 0x06#8
  | .und07 => 0x07#8
  | .und08 => 0x08#8
  | .und09 => 0x09#8
  | .und0A => 0x0A#8
  | .und0B => 0x0B#8
  | .und0C => 0x0C#8
  | .und0D => 0x0D#8
  | .und0E => 0x0E#8
  | .und0F => 0x0F#8
  | .und10 => 0x10#8
  | .und11 => 0x11#8
  | .und12 => 0x12#8
  | .und13 => 0x13#8
  | .und14 => 0x14#8
  | .und15 => 0x15#8
  | .und16 => 0x16#8
  | .und17 => 0x17#8
  | .und18 => 0x18#8
  | .und19 => 0x19#8
  | .und1A => 0x1A#8
  | .und1B => 0x1B#8
  | .und1C => 0x1C#8
  | .und1D => 0x1D#8
  | .und1E => 0x1E#8
  | .und1F => 0x1F#8
  | .und20 => 0x20#8
  | .und21 => 0x21#8
  | .und22 => 0x22#8
  | .und23 => 0x23#8
  | .und24 => 0x24#8
  | .und25 => 0x25#8
  | .und26 => 0x26#8
  | .und27 => 0x27#8
  | .und28 => 0x28#8
  | .und29 => 0x29#8
  | .und2A => 0x2A#8
  | .und2B => 0x2B#8
  | .und2C => 0x2C#8
  | .und2D => 0x2D#8
  | .und2E => 0x2E#8
  | .und2F => 0x2F#8
  | .und30 => 0x30#8
  | .und31 => 0x31#8
  | .und32 => 0x32#8
  | .und33 => 0x33#8
  | .und34 => 0x34#8
  | .und35 => 0x35#8
  | .und36 => 0x36#8
  | .und37 => 0x37#8
  | .und38 => 0x38#8
  | .und39 => 0x39#8
  | .und3A => 0x3A#8
  | .und3B => 0x3B#8
  | .und3C => 0x3C#8
  | .und3D => 0x3D#8
  | .und3E => 0x3E#8
  | .und3F => 0x3F#8
  | .und40 => 0x40#8
  | .und41 => 0x41#8
  | .und42 => 0x42#8
  | .und43 => 0x43#8
  | .und44 => 0x44#8
  | .und45 => 0x45#8
  | .und46 => 0x46#8
  | .und47 => 0x47#8
  | .und48 => 0x48#8
  | .und49 => 0x49#8
  | .und4A => 0x4A#8
  | .und4B => 0x4B#8
  | .und4C => 0x4C#8
  | .und4D => 0x4D#8
  | .und4E => 0x4E#8
  | .und4F => 0x4F#8
  | .und50 => 0x50#8
  | .und51 => 0x51#8
  | .und52 => 0x52#8
  | .und53 => 0x53#8
  | .und54 => 0x54#8
  | .und55 => 0x55#8
  | .und56 => 0x56#8
  | .und57 => 0x57#8
  | .und58 => 0x58#8
  | .und59 => 0x59#8
  | .und5A => 0x5A#8
  | .und5B => 0x5B#8
  | .und5C => 0x5C#8
  | .und5D => 0x5D#8
  | .und5E => 0x5E#8
  | .und5F => 0x5F#8
  | .und60 => 0x60#8
  | .und61 => 0x61#8
  | .und62 => 0x62#8
  | .und63 => 0x63#8
  | .und64 => 0x64#8
  | .und65 => 0x65#8
  | .und66 => 0x66#8
  | .und67 => 0x67#8
  | .und68 => 0x68#8
  | .und69 => 0x69#8
  | .und6A => 0x6A#8
  | .und6B => 0x6B#8
  | .und6C => 0x6C#8
  | .und6D => 0x6D#8
  | .und6E => 0x6E#8
  | .und6F => 0x6F#8
  | .und70 => 0x70#8
  | .und71 => 0x71#8
  | .und72 => 0x72#8
  | .und73 => 0x73#8
  | .und74 => 0x74#8
  | .und75 => 0x75#8
  | .und76 => 0x76#8
  | .und77 => 0x77#8
  | .und78 => 0x78#8
  | .und79 => 0x79#8
  | .und7A => 0x7A#8
  | .und7B => 0x7B#8
  | .und7C => 0x7C#8
  | .und7D => 0x7D#8
  | .und7E => 0x7E#8
  | .und7F => 0x7F#8
  | .und80 => 0x80#8
  | .und81 => 0x81#8
  | .und82 => 0x82#8
  | .und83 => 0x83#8
  | .und84 => 0x84#8
  | .und85 => 0x85#8
  | .und86 => 0x86#8
  | .und87 => 0x87#8
  | .und88 => 0x88#8
  | .und89 => 0x89#8
  | .und8A => 0x8A#8
  | .und8B => 0x8B#8
  | .und8C => 0x8C#8
  | .und8D => 0x8D#8
  | .und8E => 0x8E#8
  | .und8F => 0x8F#8
  | .und90 => 0x90#8
  | .und91 => 0x91#8
  | .und92 => 0x92#8
  | .und93 => 0x93#8
  | .und94 => 0x94#8
  | .und95 => 0x95#8
  | .und96 => 0x96#8
  | .und97 => 0x97#8
  | .und98 => 0x98#8
  | .und99 => 0x99#8
  | .und9A => 0x9A#8
  | .und9B => 0x9B#8
  | .und9C => 0x9C#8
  | .und9D => 0x9D#8
  | .und9E => 0x9E#8
  | .und9F => 0x9F#8
  | .undA0 => 0xA0#8
  | .undA1 => 0xA1#8
  | .undA2 => 0xA2#8
  | .undA3 => 0xA3#8
  | .undA4 => 0xA4#8
  | .undA5 => 0xA5#8
  | .undA6 => 0xA6#8
  | .undA7 => 0xA7#8
  | .undA8 => 0xA8#8
  | .ldaImm _ => 0xA9#8
  | .undAA => 0xAA#8
  | .undAB => 0xAB#8
  | .undAC => 0xAC#8
  | .undAD => 0xAD#8
  | .undAE => 0xAE#8
  | .undAF => 0xAF#8
  | .undB0 => 0xB0#8
  | .undB1 => 0xB1#8
  | .undB2 => 0xB2#8
  | .undB3 => 0xB3#8
  | .undB4 => 0xB4#8
  | .undB5 => 0xB5#8
  | .undB6 => 0xB6#8
  | .undB7 => 0xB7#8
  | .undB8 => 0xB8#8
  | .undB9 => 0xB9#8
  | .undBA => 0xBA#8
  | .undBB => 0xBB#8
  | .undBC => 0xBC#8
  | .undBD => 0xBD#8
  | .undBE => 0xBE#8
  | .undBF => 0xBF#8
  | .undC0 => 0xC0#8
  | .undC1 => 0xC1#8
  | .undC2 => 0xC2#8
  | .undC3 => 0xC3#8
  | .undC4 => 0xC4#8
  | .undC5 => 0xC5#8
  | .undC6 => 0xC6#8
  | .undC7 => 0xC7#8
  | .undC8 => 0xC8#8
  | .undC9 => 0xC9#8
  | .undCA => 0xCA#8
  | .undCB => 0xCB#8
  | .undCC => 0xCC#8
  | .undCD => 0xCD#8
  | .undCE => 0xCE#8
  | .undCF => 0xCF#8
  | .undD0 => 0xD0#8
  | .undD1 => 0xD1#8
  | .undD2 => 0xD2#8
  | .undD3 => 0xD3#8
  | .undD4 => 0xD4#8
  | .undD5 => 0xD5#8
  | .undD6 => 0xD6#8
  | .undD7 => 0xD7#8
  | .undD8 => 0xD8#8
  | .undD9 => 0xD9#8
  | .undDA => 0xDA#8
  | .undDB => 0xDB#8
  | .undDC => 0xDC#8
  | .undDD => 0xDD#8
  | .undDE => 0xDE#8
  | .undDF => 0xDF#8
  | .undE0 => 0xE0#8
  | .undE1 => 0xE1#8
  | .undE2 => 0xE2#8
  | .undE3 => 0xE3#8
  | .undE4 => 0xE4#8
  | .undE5 => 0xE5#8
  | .undE6 => 0xE6#8
  | .undE7 => 0xE7#8
  | .undE8 => 0xE8#8
  | .undE9 => 0xE9#8
  | .nop => 0xEA#8
  | .undEB => 0xEB#8
  | .undEC => 0xEC#8
  | .undED => 0xED#8
  | .undEE => 0xEE#8
  | .undEF => 0xEF#8
  | .undF0 => 0xF0#8
  | .undF1 => 0xF1#8
  | .undF2 => 0xF2#8
  | .undF3 => 0xF3#8
  | .undF4 => 0xF4#8
  | .undF5 => 0xF5#8
  | .undF6 => 0xF6#8
  | .undF7 => 0xF7#8
  | .undF8 => 0xF8#8
  | .undF9 => 0xF9#8
  | .undFA => 0xFA#8
  | .undFB => 0xFB#8
  | .undFC => 0xFC#8
  | .undFD => 0xFD#8
  | .undFE => 0xFE#8
  | .undFF => 0xFF#8

/-- The operand bytes: one for format `IMM8` (R82), none for `IMP`, which is every other constructor (R81). -/
def Instr.operandBytes : Instr → List Byte
  | .ldaImm imm8 => [imm8]
  | _ => []

/-- The bytes of an instruction at ascending addresses (R80). -/
def encode (i : Instr) : List Byte := i.opcode :: i.operandBytes

/-- The length of an instruction in bytes. -/
def Instr.length (i : Instr) : Nat := 1 + i.operandBytes.length

/-- The 253 unassigned opcodes (R84, R116): none of 0x00, 0xA9, 0xEA. -/
def Instr.unassigned (i : Instr) : Bool := i.opcode != 0x00#8 && i.opcode != 0xA9#8 && i.opcode != 0xEA#8

/-! ### Assembler (R89) -/

/-- The bytes of one assembler line (R89). -/
def AsmLine.bytes : AsmLine → List Byte
  | .lda n => encode (.ldaImm (BitVec.ofNat 8 n))
  | .nop => encode .nop
  | .brk => encode .brk
  | .und hh => [BitVec.ofNat 8 hh]
  | .data hhs => hhs.map (BitVec.ofNat 8)
  | .org _ => []
  | .comment _ => []

/-- The image a program stands for: its lines' bytes in order, the first at 0x8000 (R89, R203). -/
def assemble (lines : List AsmLine) : List Byte := lines.flatMap AsmLine.bytes

end Sys2Proof
end

