-- ==== Sys2Proof/Config.lean ====
section
/-! DEFINITION. The parameters of spec/00_scope.md R6: the ones the spec gives a value, and the four it
leaves OPEN, which are constants without a body, so that a claim holds whatever they are. -/

namespace Sys2Proof

/-! ### Parameters with a value (R6; log entry 34: unaudited literals of the source) -/

/-- `RAM_SIZE`, 128 KiB (R6, R26). -/
def Config.ramSize : Nat := 131072

/-- `RAM_BOUNDARY`: addresses below it reach RAM (R6, R51). -/
def Config.ramBoundary : Nat := 0x2000

/-- `ROM_BASE`, the first address of the window (R6, R51). -/
def Config.romBase : Nat := 0x8000

/-- The number of addresses in the window 0x8000 to 0xFFFF (R6: `ROM_TOP`). -/
def Config.romWindow : Nat := 32768

/-- `ENTRY_POINT` (R204). DESIGN CHOICE, the spec's D3 (log entry 3); unsafe. -/
def Config.entryPoint : Addr := 0x8000#16

/-- `COST_LDA_IMM` (R103). -/
def Config.costLdaImm : Nat := 2

/-- `COST_NOP` (R103). -/
def Config.costNop : Nat := 2

/-- `COST_MIN`, every unassigned opcode (R103). DESIGN CHOICE, the spec's D4 (log entry 4); unsafe. -/
def Config.costMin : Nat := 2

/-- `COST_HALT` (R103). DESIGN CHOICE, the spec's D5 (log entry 5); unsafe. -/
def Config.costHalt : Nat := 0

/-- `STARTUP_OVERHEAD` (R101). DESIGN CHOICE, the spec's D2 (log entry 2); unsafe. -/
def Config.startupOverhead : Nat := 2

/-- `FRAME_W` (R131). -/
abbrev Config.frameWidth : Nat := 256

/-- `FRAME_H` (R131). -/
abbrev Config.frameHeight : Nat := 224

/-- `FRAME_CH` (R131). -/
abbrev Config.frameChannels : Nat := 3

/-- The type of `PATTERN`: column, row and frame index to a pixel (R133, R136). -/
abbrev Pattern := Fin Config.frameWidth → Fin Config.frameHeight → Nat → Pixel

/-- The type of `FLAGS_LDA`: old `P` and loaded byte to new `P` (R110). -/
abbrev FlagRule := Byte → Byte → Byte

/-! ### OPEN parameters (R6, R14): no body, so nothing can be proved of their values -/

/-- `STEPS_PER_FRAME`, any natural number (R152, the spec's D12; log entry 12); safe. -/
opaque Config.stepsPerFrame : Nat

/-- `PATTERN`, the pixel function (R133, the spec's D14; log entry 14); safe. -/
opaque Config.pattern : Pattern

/-- `FLAGS_LDA`, what `LDA #imm` does to `P` (R110, the spec's D6; log entry 6); safe. -/
opaque Config.flagsLda : FlagRule

/-- How many buttons there are beyond the ten the spec promises (R28; log entry 16); safe. -/
opaque Config.extraButtons : Nat

/-- `NB`, the width of the input latch: at least 10, otherwise open (R28, the spec's D16). -/
def Config.latchWidth : Nat := 10 + Config.extraButtons

/-! ### The spec's default instances, for runners only; no meaning uses them -/

/-- The default of `FLAGS_LDA`: `P` unchanged (R110). -/
def Config.flagsLdaDefault : FlagRule := fun p _ => p

/-- `PATTERN_DEFAULT` (R133): exclusive-or of natural numbers, reduced modulo 256 at the end. -/
def Config.patternDefault : Pattern := fun x y n =>
  { c0 := BitVec.ofNat 8 (x.val ^^^ n)
    c1 := BitVec.ofNat 8 (y.val ^^^ n)
    c2 := BitVec.ofNat 8 (x.val ^^^ y.val ^^^ n) }

end Sys2Proof
end

