-- ==== Sys2Proof/Machine/State.lean ====
section
/-! DEFINITION. The state of the block (spec/10_state.md), as plain data, and why a step can stop. -/

namespace Sys2Proof.Machine

/-! ### Memory -/

/-- The RAM array: (index, byte) pairs with strictly rising indices and no zero byte. An index that is not listed holds 0x00,
the creation value of every byte of RAM (R26). -/
abbrev Memory := List Host.Cell

/-- What an unlisted index of RAM holds (R26: "zero-initialized at creation"). -/
def Memory.unlisted : Byte := 0x00#8

/-- The canonical form: indices strictly rising and inside the array, and no entry that says what an unlisted index says. -/
abbrev Memory.wf (m : Memory) : Prop :=
  m.Pairwise (fun x y => x.1 < y.1) ∧ ∀ c ∈ m, c.1 < Config.ramSize ∧ c.2 ≠ Memory.unlisted

/-! ### Snapshots and slots -/

/-- What `save_state` captures (R31, R155): the processor state with `startup_pending`, the whole of RAM, `frame_count`. -/
structure Snapshot where
  pc : Addr
  a : Byte
  sp : Addr
  p : Byte
  cyc : CycleCount
  startupPending : Bool
  ram : Memory
  frameCount : Nat
  deriving DecidableEq, Repr

/-- The partial map from slot keys to snapshots (R31), with strictly rising keys. -/
abbrev Slots := List (Int × Snapshot)

/-- The canonical form of `Slots`: every key at most once, in rising order. -/
abbrev Slots.wf (m : Slots) : Prop := m.Pairwise (fun x y => x.1 < y.1)

/-! ### Results of a step and of a batch -/

/-- The outcome of a step, `Continued | Halted` (R100, R161). -/
inductive StepOutcome where
  | continued
  | halted
  deriving DecidableEq, Repr

/-- The `batch` component of `run_frame`'s result (R161): `haltedAt k` names the 1-based step that halted. -/
inductive Batch where
  | completed
  | haltedAt (k : Nat)
  deriving DecidableEq, Repr

/-- A `run_frame` in progress (R60, R61, R152): the steps it has performed and its `batch` so far. -/
structure FrameRun where
  taken : Nat
  batch : Batch
  deriving DecidableEq, Repr

/-! ### The state -/

/-- Every piece of state of R34, and two fields of the model's own: `stepResult`, the result of the step last performed, held
until the sequencer takes it (log entry 36), and `frameRun`, the `run_frame` in progress (log entry 37). `rom_size` is the
length of `rom` (R27). -/
structure State where
  /-- The program counter (R20). -/
  pc : Addr
  /-- The accumulator `A` (R21). -/
  a : Byte
  /-- The stack pointer `SP` (R22). -/
  sp : Addr
  /-- The status flags `P`, eight opaque bits (R23). -/
  p : Byte
  /-- The cycle count `CYC` (R24). -/
  cyc : CycleCount
  /-- `startup_pending` (R25). -/
  startupPending : Bool
  /-- `ram`, 131072 bytes (R26). -/
  ram : Memory
  /-- `rom`, the loaded image (R27). -/
  rom : List Byte
  /-- `BTN`, the input latch (R28). -/
  btn : BitVec Config.latchWidth
  /-- `loaded` (R29). -/
  loaded : Bool
  /-- `frame_count`, unbounded (R30). -/
  frameCount : Nat
  /-- `slots` (R31). -/
  slots : Slots
  /-- The model's own: the result of the last step, not yet taken by the sequencer. -/
  stepResult : Option StepOutcome
  /-- The model's own: the `run_frame` in progress, if there is one. -/
  frameRun : Option FrameRun
  deriving DecidableEq, Repr

/-- Why the machine stops with a fault: never. The machine has no fault of any kind (R180, R182), so there is no constructor. -/
inductive Fault where
  deriving DecidableEq, Repr

/-- Why a step is given no meaning. -/
inductive Refusal where
  /-- Raised by an arm of `exec` that has no meaning yet; no arm of this model raises it. Safe. -/
  | notModelled (mnemonic : String)
  /-- Raised by any instruction whose step would take `CYC` to 2^64 or more, which "a model refuses" (R24, the spec's D21,
  log entry 21). Safe. -/
  | cycleCountOverflow
  deriving DecidableEq, Repr

/-- The machine at creation (R200, R34), which a `reset` command leaves as it is. `ram`, `rom`, `loaded`, `frame_count`, `slots`
are the source's; the other values are the spec's D8, and `stepResult` and `frameRun` the model's. DESIGN CHOICE (log entries 8,
36, 37); unsafe. -/
def State.reset : State where
  pc := Config.entryPoint
  a := 0x00#8
  sp := 0x0000#16
  p := 0x00#8
  cyc := 0#64
  startupPending := true
  ram := []
  rom := []
  btn := 0#Config.latchWidth
  loaded := false
  frameCount := 0
  slots := []
  stepResult := none
  frameRun := none

end Sys2Proof.Machine
end

