-- ==== Sys2Proof/Machine/Update.lean ====
section
/-! DEFINITION. One named update per field of State. -/

namespace Sys2Proof.Machine

/-- `s` with `pc` replaced. -/
def State.setPc (s : State) (v : Addr) : State := { s with pc := v }

/-- `s` with `a` replaced. -/
def State.setA (s : State) (v : Byte) : State := { s with a := v }

/-- `s` with `sp` replaced. -/
def State.setSp (s : State) (v : Addr) : State := { s with sp := v }

/-- `s` with `p` replaced. -/
def State.setP (s : State) (v : Byte) : State := { s with p := v }

/-- `s` with `cyc` replaced. -/
def State.setCyc (s : State) (v : CycleCount) : State := { s with cyc := v }

/-- `s` with `startupPending` replaced. -/
def State.setStartupPending (s : State) (v : Bool) : State := { s with startupPending := v }

/-- `s` with `ram` replaced. -/
def State.setRam (s : State) (v : Memory) : State := { s with ram := v }

/-- `s` with `rom` replaced. -/
def State.setRom (s : State) (v : List Byte) : State := { s with rom := v }

/-- `s` with `btn` replaced. -/
def State.setBtn (s : State) (v : BitVec Config.latchWidth) : State := { s with btn := v }

/-- `s` with `loaded` replaced. -/
def State.setLoaded (s : State) (v : Bool) : State := { s with loaded := v }

/-- `s` with `frameCount` replaced. -/
def State.setFrameCount (s : State) (v : Nat) : State := { s with frameCount := v }

/-- `s` with `slots` replaced. -/
def State.setSlots (s : State) (v : Slots) : State := { s with slots := v }

/-- `s` with `stepResult` replaced. -/
def State.setStepResult (s : State) (v : Option StepOutcome) : State := { s with stepResult := v }

/-- `s` with `frameRun` replaced. -/
def State.setFrameRun (s : State) (v : Option FrameRun) : State := { s with frameRun := v }

end Sys2Proof.Machine
end

