-- ==== Sys2Proof/Machine/Ops.lean ====
section
/-! DEFINITION. The named operations every instruction and every command is built from: RAM, the address decoder
(spec/20_memory.md), the slots, and the stages of a step (spec/40_step_cycle.md R100). -/

namespace Sys2Proof.Machine

/-- What a step or a meaning answers. -/
abbrev Result := Host.Outcome State Fault Refusal

/-- Do `f` after `o`, unless `o` stopped. -/
def andThen {α β : Type} (o : Host.Outcome α Fault Refusal) (f : α → Host.Outcome β Fault Refusal) :
    Host.Outcome β Fault Refusal :=
  match o with
  | .next x => f x
  | .fault r => .fault r
  | .refused r => .refused r

/-! ### The RAM array (R26) -/

/-- The byte at index `k` of the array. -/
def Memory.read : Memory → Nat → Byte
  | [], _ => Memory.unlisted
  | (j, v) :: m, k => if k = j then v else Memory.read m k

/-- Store `v` at index `k`, keeping the canonical form. -/
def Memory.write : Memory → Nat → Byte → Memory
  | [], k, v => if v = Memory.unlisted then [] else [(k, v)]
  | (j, w) :: m, k, v =>
    if k < j then (if v = Memory.unlisted then (j, w) :: m else (k, v) :: (j, w) :: m)
    else if k = j then (if v = Memory.unlisted then m else (k, v) :: m)
    else (j, w) :: Memory.write m k v

/-! ### The address decoder (R50 to R55) -/

/-- An address of any width as the port takes it: modulo 2^16 (R55, the spec's D1; log entry 1). -/
def portAddress (a : Int) : Addr := BitVec.ofInt 16 a

/-- A value of any size as the port takes it: modulo 256 (R53; log entry 25). -/
def portByte (v : Int) : Byte := BitVec.ofInt 8 v

/-- Byte `k` of the image, or 0x00 beyond its end (R51). -/
def imageByte (rom : List Byte) (k : Nat) : Byte := rom.getD k 0x00#8

/-- `MemRead(address, 1)` (R52). Total, and it changes nothing. -/
def State.readByte (s : State) (address : Addr) : Byte :=
  if address.toNat < Config.ramBoundary then s.ram.read (address.toNat % Config.ramSize)
  else if Config.romBase ≤ address.toNat ∧ address.toNat - Config.romBase < s.rom.length then
    imageByte s.rom (address.toNat - Config.romBase)
  else 0x00#8

/-- `MemWrite(address, 1, v)` (R53): a write outside RAM is discarded. -/
def State.writeByte (s : State) (address : Addr) (v : Byte) : State :=
  if address.toNat < Config.ramBoundary then s.setRam (s.ram.write (address.toNat % Config.ramSize) v) else s

/-- `read_byte(address)` for an address of any width (R52, R55). -/
def State.readPort (s : State) (address : Int) : Byte := s.readByte (portAddress address)

/-- `write_byte(address, value)` for integers of any size (R53, R55). -/
def State.writePort (s : State) (address value : Int) : State := s.writeByte (portAddress address) (portByte value)

/-- `load_program(bytes)` (R54): the image is replaced wholesale. -/
def State.loadProgram (s : State) (bytes : List Byte) : State := s.setRom bytes

/-! ### The stages of a step (R100) -/

/-- Add `n` cycles to `CYC`, or refuse where the sum reaches 2^64 (R24, the spec's D21; log entry 21). -/
def addCycles (n : Nat) (s : State) : Result :=
  if s.cyc.toNat + n < 2 ^ 64 then .next (s.setCyc (s.cyc + BitVec.ofNat 64 n)) else .refused .cycleCountOverflow

/-- Stage 1 (R101): the first step after a reset charges the start-up overhead and clears the flag. -/
def chargeStartup (s : State) : Result :=
  if s.startupPending then andThen (addCycles Config.startupOverhead s) fun s' => .next (s'.setStartupPending false)
  else .next s

/-- Stage 3, and the advance past an operand byte (R20, R104): modulo 2^16 (the spec's D11; log entry 11). -/
def State.advancePc (s : State) : State := s.setPc (s.pc + 1#16)

/-- `return Continued` (R7): the step's result. -/
def State.returnContinued (s : State) : State := s.setStepResult (some .continued)

/-- `raise Halt`, the machine's one trap-like event (R180, R181): the step's result is `Halted`. It saves nothing, changes no
mode, reads no vector, pushes nothing and leaves `pc` where stage 3 put it (R183). There is no return from it and no flag that
remembers it: what ends with it is the sequencer's batch (R184; the spec's D5, D23, D24; log entries 5, 23, 24). -/
def State.raiseHalt (s : State) : State := s.setStepResult (some .halted)

/-- One step around an opcode's own effect (R100): stage 1, then stage 3, then the effect (stage 4, which ends with the step's
result, stage 6), then the opcode's cost (stage 5, R103). Stage 2, the fetch, is `fetch` (log entry 38). -/
def instructionCycle (cost : Nat) (effect : State → State) (s : State) : Result :=
  andThen (chargeStartup s) fun s' => addCycles cost (effect s'.advancePc)

/-! ### Slots (R31) -/

/-- The snapshot under a key, if the key is present. -/
def Slots.find : Slots → Int → Option Snapshot
  | [], _ => none
  | (j, x) :: m, k => if k = j then some x else Slots.find m k

/-- Put a snapshot under a key; one that is already there is replaced (R155). -/
def Slots.put : Slots → Int → Snapshot → Slots
  | [], k, x => [(k, x)]
  | (j, y) :: m, k, x =>
    if k < j then (k, x) :: (j, y) :: m
    else if k = j then (k, x) :: m
    else (j, y) :: Slots.put m k x

/-- The tuple `save_state` captures (R155). -/
def State.snapshot (s : State) : Snapshot where
  pc := s.pc
  a := s.a
  sp := s.sp
  p := s.p
  cyc := s.cyc
  startupPending := s.startupPending
  ram := s.ram
  frameCount := s.frameCount

/-- The state with a snapshot's components restored and nothing else written (R156). -/
def State.restore (s : State) (x : Snapshot) : State :=
  { s with pc := x.pc, a := x.a, sp := x.sp, p := x.p, cyc := x.cyc, startupPending := x.startupPending,
           ram := x.ram, frameCount := x.frameCount }

end Sys2Proof.Machine
end

