-- ==== Sys2Proof/Machine/Operands.lean ====
section
/-! DEFINITION. Fetching an instruction and its one operand form (spec/30_encoding.md R80 to R83, spec/40_step_cycle.md R100
stage 2, R104). -/

namespace Sys2Proof.Machine

/-- The address of the operand byte of an instruction at `a`: the byte after the opcode, modulo 2^16 (R82, R107). -/
def operandAddress (a : Addr) : Addr := a + 1#16

/-- Stage 2 and the operand fetch of R104 together: the instruction at `pc`. Both bytes come through the one decoder (R52). The
byte after a one-byte opcode is read too and not used; a read writes no state (R58; log entry 38). -/
def fetch (s : State) : Instr := decodeInstr (s.readByte s.pc) (s.readByte (operandAddress s.pc))

/-- The bytes from `pc` on, as many as the longest instruction has (R80). -/
def fetchBytes (s : State) : List Byte := [s.readByte s.pc, s.readByte (operandAddress s.pc)]

/-- Consuming the operand of format `IMM8`: `pc` moves past it (R104). -/
def State.consumeOperand (s : State) : State := s.advancePc

end Sys2Proof.Machine
end

