-- ==== Sys2Proof/Machine/Halt.lean ====
section
/-! DEFINITION. `BRK`, spec/43_brk_halt.md R120. -/

namespace Sys2Proof.Machine

/-- `BRK` (R120): the step's result is `Halted`; `pc` is left one past the opcode and no cost is added. -/
def execBrk (s : State) : Result := instructionCycle Config.costHalt State.raiseHalt s

end Sys2Proof.Machine
end

