-- ==== Sys2Proof/Machine/Flags.lean ====
section
/-! DEFINITION. The status flags. `P` is eight opaque bits (spec/10_state.md R23); the one rule that writes it is that of
`LDA #imm`, an OPEN function of the old `P` and the loaded byte (spec/41_lda.md R110; log entries 6, 7). -/

namespace Sys2Proof.Machine

/-- `x[P] <- FLAGS(x[P], v)` for a flag rule `flags`. -/
def State.applyFlags (flags : FlagRule) (v : Byte) (s : State) : State := s.setP (flags s.p v)

end Sys2Proof.Machine
end

