-- ==== Sys2Proof/Machine/Load.lean ====
section
/-! DEFINITION. `LDA #imm`, spec/41_lda.md R110. -/

namespace Sys2Proof.Machine

/-- Stage 4 of `LDA #imm` (R110) for a flag rule: `pc` moves past the operand, `A` takes it, `P` takes what the rule gives. -/
def loadAccumulator (flags : FlagRule) (imm8 : Byte) (s : State) : State :=
  ((s.consumeOperand.setA imm8).applyFlags flags imm8).returnContinued

/-- `LDA #imm` under a given flag rule, for runners that need a concrete one (R110). -/
def execLdaImmWith (flags : FlagRule) (imm8 : Byte) (s : State) : Result :=
  instructionCycle Config.costLdaImm (loadAccumulator flags imm8) s

/-- `LDA #imm` (R110), with the OPEN rule `FLAGS_LDA`. -/
def execLdaImm (imm8 : Byte) (s : State) : Result := execLdaImmWith Config.flagsLda imm8 s

end Sys2Proof.Machine
end

