-- ==== Sys2Proof/Machine/Nop.lean ====
section
/-! DEFINITION. `NOP`, spec/42_nop_and_unassigned.md R115. -/

namespace Sys2Proof.Machine

/-- `NOP` (R115): nothing beyond what every step does. -/
def execNop (s : State) : Result := instructionCycle Config.costNop State.returnContinued s

end Sys2Proof.Machine
end

