-- ==== Sys2Proof/Machine/Unassigned.lean ====
section
/-! DEFINITION. The unassigned opcodes, spec/42_nop_and_unassigned.md R116: each is a one-byte no-operation of cost `COST_MIN`
and outcome `Continued`. One definition per opcode, each over the one shared operation. -/

namespace Sys2Proof.Machine

/-- `UND` (R116): nothing beyond what every step does; the byte after the opcode is not consumed. -/
def executeUnassigned (s : State) : Result :=
  instructionCycle Config.costMin State.returnContinued s

/-- `UND $01` (R116). -/
def execUnd01 (s : State) : Result := executeUnassigned s
/-- `UND $02` (R116). -/
def execUnd02 (s : State) : Result := executeUnassigned s
/-- `UND $03` (R116). -/
def execUnd03 (s : State) : Result := executeUnassigned s
/-- `UND $04` (R116). -/
def execUnd04 (s : State) : Result := executeUnassigned s
/-- `UND $05` (R116). -/
def execUnd05 (s : State) : Result := executeUnassigned s
/-- `UND $06` (R116). -/
def execUnd06 (s : State) : Result := executeUnassigned s
/-- `UND $07` (R116). -/
def execUnd07 (s : State) : Result := executeUnassigned s
/-- `UND $08` (R116). -/
def execUnd08 (s : State) : Result := executeUnassigned s
/-- `UND $09` (R116). -/
def execUnd09 (s : State) : Result := executeUnassigned s
/-- `UND $0A` (R116). -/
def execUnd0A (s : State) : Result := executeUnassigned s
/-- `UND $0B` (R116). -/
def execUnd0B (s : State) : Result := executeUnassigned s
/-- `UND $0C` (R116). -/
def execUnd0C (s : State) : Result := executeUnassigned s
/-- `UND $0D` (R116). -/
def execUnd0D (s : State) : Result := executeUnassigned s
/-- `UND $0E` (R116). -/
def execUnd0E (s : State) : Result := executeUnassigned s
/-- `UND $0F` (R116). -/
def execUnd0F (s : State) : Result := executeUnassigned s
/-- `UND $10` (R116). -/
def execUnd10 (s : State) : Result := executeUnassigned s
/-- `UND $11` (R116). -/
def execUnd11 (s : State) : Result := executeUnassigned s
/-- `UND $12` (R116). -/
def execUnd12 (s : State) : Result := executeUnassigned s
/-- `UND $13` (R116). -/
def execUnd13 (s : State) : Result := executeUnassigned s
/-- `UND $14` (R116). -/
def execUnd14 (s : State) : Result := executeUnassigned s
/-- `UND $15` (R116). -/
def execUnd15 (s : State) : Result := executeUnassigned s
/-- `UND $16` (R116). -/
def execUnd16 (s : State) : Result := executeUnassigned s
/-- `UND $17` (R116). -/
def execUnd17 (s : State) : Result := executeUnassigned s
/-- `UND $18` (R116). -/
def execUnd18 (s : State) : Result := executeUnassigned s
/-- `UND $19` (R116). -/
def execUnd19 (s : State) : Result := executeUnassigned s
/-- `UND $1A` (R116). -/
def execUnd1A (s : State) : Result := executeUnassigned s
/-- `UND $1B` (R116). -/
def execUnd1B (s : State) : Result := executeUnassigned s
/-- `UND $1C` (R116). -/
def execUnd1C (s : State) : Result := executeUnassigned s
/-- `UND $1D` (R116). -/
def execUnd1D (s : State) : Result := executeUnassigned s
/-- `UND $1E` (R116). -/
def execUnd1E (s : State) : Result := executeUnassigned s
/-- `UND $1F` (R116). -/
def execUnd1F (s : State) : Result := executeUnassigned s
/-- `UND $20` (R116). -/
def execUnd20 (s : State) : Result := executeUnassigned s
/-- `UND $21` (R116). -/
def execUnd21 (s : State) : Result := executeUnassigned s
/-- `UND $22` (R116). -/
def execUnd22 (s : State) : Result := executeUnassigned s
/-- `UND $23` (R116). -/
def execUnd23 (s : State) : Result := executeUnassigned s
/-- `UND $24` (R116). -/
def execUnd24 (s : State) : Result := executeUnassigned s
/-- `UND $25` (R116). -/
def execUnd25 (s : State) : Result := executeUnassigned s
/-- `UND $26` (R116). -/
def execUnd26 (s : State) : Result := executeUnassigned s
/-- `UND $27` (R116). -/
def execUnd27 (s : State) : Result := executeUnassigned s
/-- `UND $28` (R116). -/
def execUnd28 (s : State) : Result := executeUnassigned s
/-- `UND $29` (R116). -/
def execUnd29 (s : State) : Result := executeUnassigned s
/-- `UND $2A` (R116). -/
def execUnd2A (s : State) : Result := executeUnassigned s
/-- `UND $2B` (R116). -/
def execUnd2B (s : State) : Result := executeUnassigned s
/-- `UND $2C` (R116). -/
def execUnd2C (s : State) : Result := executeUnassigned s
/-- `UND $2D` (R116). -/
def execUnd2D (s : State) : Result := executeUnassigned s
/-- `UND $2E` (R116). -/
def execUnd2E (s : State) : Result := executeUnassigned s
/-- `UND $2F` (R116). -/
def execUnd2F (s : State) : Result := executeUnassigned s
/-- `UND $30` (R116). -/
def execUnd30 (s : State) : Result := executeUnassigned s
/-- `UND $31` (R116). -/
def execUnd31 (s : State) : Result := executeUnassigned s
/-- `UND $32` (R116). -/
def execUnd32 (s : State) : Result := executeUnassigned s
/-- `UND $33` (R116). -/
def execUnd33 (s : State) : Result := executeUnassigned s
/-- `UND $34` (R116). -/
def execUnd34 (s : State) : Result := executeUnassigned s
/-- `UND $35` (R116). -/
def execUnd35 (s : State) : Result := executeUnassigned s
/-- `UND $36` (R116). -/
def execUnd36 (s : State) : Result := executeUnassigned s
/-- `UND $37` (R116). -/
def execUnd37 (s : State) : Result := executeUnassigned s
/-- `UND $38` (R116). -/
def execUnd38 (s : State) : Result := executeUnassigned s
/-- `UND $39` (R116). -/
def execUnd39 (s : State) : Result := executeUnassigned s
/-- `UND $3A` (R116). -/
def execUnd3A (s : State) : Result := executeUnassigned s
/-- `UND $3B` (R116). -/
def execUnd3B (s : State) : Result := executeUnassigned s
/-- `UND $3C` (R116). -/
def execUnd3C (s : State) : Result := executeUnassigned s
/-- `UND $3D` (R116). -/
def execUnd3D (s : State) : Result := executeUnassigned s
/-- `UND $3E` (R116). -/
def execUnd3E (s : State) : Result := executeUnassigned s
/-- `UND $3F` (R116). -/
def execUnd3F (s : State) : Result := executeUnassigned s
/-- `UND $40` (R116). -/
def execUnd40 (s : State) : Result := executeUnassigned s
/-- `UND $41` (R116). -/
def execUnd41 (s : State) : Result := executeUnassigned s
/-- `UND $42` (R116). -/
def execUnd42 (s : State) : Result := executeUnassigned s
/-- `UND $43` (R116). -/
def execUnd43 (s : State) : Result := executeUnassigned s
/-- `UND $44` (R116). -/
def execUnd44 (s : State) : Result := executeUnassigned s
/-- `UND $45` (R116). -/
def execUnd45 (s : State) : Result := executeUnassigned s
/-- `UND $46` (R116). -/
def execUnd46 (s : State) : Result := executeUnassigned s
/-- `UND $47` (R116). -/
def execUnd47 (s : State) : Result := executeUnassigned s
/-- `UND $48` (R116). -/
def execUnd48 (s : State) : Result := executeUnassigned s
/-- `UND $49` (R116). -/
def execUnd49 (s : State) : Result := executeUnassigned s
/-- `UND $4A` (R116). -/
def execUnd4A (s : State) : Result := executeUnassigned s
/-- `UND $4B` (R116). -/
def execUnd4B (s : State) : Result := executeUnassigned s
/-- `UND $4C` (R116). -/
def execUnd4C (s : State) : Result := executeUnassigned s
/-- `UND $4D` (R116). -/
def execUnd4D (s : State) : Result := executeUnassigned s
/-- `UND $4E` (R116). -/
def execUnd4E (s : State) : Result := executeUnassigned s
/-- `UND $4F` (R116). -/
def execUnd4F (s : State) : Result := executeUnassigned s
/-- `UND $50` (R116). -/
def execUnd50 (s : State) : Result := executeUnassigned s
/-- `UND $51` (R116). -/
def execUnd51 (s : State) : Result := executeUnassigned s
/-- `UND $52` (R116). -/
def execUnd52 (s : State) : Result := executeUnassigned s
/-- `UND $53` (R116). -/
def execUnd53 (s : State) : Result := executeUnassigned s
/-- `UND $54` (R116). -/
def execUnd54 (s : State) : Result := executeUnassigned s
/-- `UND $55` (R116). -/
def execUnd55 (s : State) : Result := executeUnassigned s
/-- `UND $56` (R116). -/
def execUnd56 (s : State) : Result := executeUnassigned s
/-- `UND $57` (R116). -/
def execUnd57 (s : State) : Result := executeUnassigned s
/-- `UND $58` (R116). -/
def execUnd58 (s : State) : Result := executeUnassigned s
/-- `UND $59` (R116). -/
def execUnd59 (s : State) : Result := executeUnassigned s
/-- `UND $5A` (R116). -/
def execUnd5A (s : State) : Result := executeUnassigned s
/-- `UND $5B` (R116). -/
def execUnd5B (s : State) : Result := executeUnassigned s
/-- `UND $5C` (R116). -/
def execUnd5C (s : State) : Result := executeUnassigned s
/-- `UND $5D` (R116). -/
def execUnd5D (s : State) : Result := executeUnassigned s
/-- `UND $5E` (R116). -/
def execUnd5E (s : State) : Result := executeUnassigned s
/-- `UND $5F` (R116). -/
def execUnd5F (s : State) : Result := executeUnassigned s
/-- `UND $60` (R116). -/
def execUnd60 (s : State) : Result := executeUnassigned s
/-- `UND $61` (R116). -/
def execUnd61 (s : State) : Result := executeUnassigned s
/-- `UND $62` (R116). -/
def execUnd62 (s : State) : Result := executeUnassigned s
/-- `UND $63` (R116). -/
def execUnd63 (s : State) : Result := executeUnassigned s
/-- `UND $64` (R116). -/
def execUnd64 (s : State) : Result := executeUnassigned s
/-- `UND $65` (R116). -/
def execUnd65 (s : State) : Result := executeUnassigned s
/-- `UND $66` (R116). -/
def execUnd66 (s : State) : Result := executeUnassigned s
/-- `UND $67` (R116). -/
def execUnd67 (s : State) : Result := executeUnassigned s
/-- `UND $68` (R116). -/
def execUnd68 (s : State) : Result := executeUnassigned s
/-- `UND $69` (R116). -/
def execUnd69 (s : State) : Result := executeUnassigned s
/-- `UND $6A` (R116). -/
def execUnd6A (s : State) : Result := executeUnassigned s
/-- `UND $6B` (R116). -/
def execUnd6B (s : State) : Result := executeUnassigned s
/-- `UND $6C` (R116). -/
def execUnd6C (s : State) : Result := executeUnassigned s
/-- `UND $6D` (R116). -/
def execUnd6D (s : State) : Result := executeUnassigned s
/-- `UND $6E` (R116). -/
def execUnd6E (s : State) : Result := executeUnassigned s
/-- `UND $6F` (R116). -/
def execUnd6F (s : State) : Result := executeUnassigned s
/-- `UND $70` (R116). -/
def execUnd70 (s : State) : Result := executeUnassigned s
/-- `UND $71` (R116). -/
def execUnd71 (s : State) : Result := executeUnassigned s
/-- `UND $72` (R116). -/
def execUnd72 (s : State) : Result := executeUnassigned s
/-- `UND $73` (R116). -/
def execUnd73 (s : State) : Result := executeUnassigned s
/-- `UND $74` (R116). -/
def execUnd74 (s : State) : Result := executeUnassigned s
/-- `UND $75` (R116). -/
def execUnd75 (s : State) : Result := executeUnassigned s
/-- `UND $76` (R116). -/
def execUnd76 (s : State) : Result := executeUnassigned s
/-- `UND $77` (R116). -/
def execUnd77 (s : State) : Result := executeUnassigned s
/-- `UND $78` (R116). -/
def execUnd78 (s : State) : Result := executeUnassigned s
/-- `UND $79` (R116). -/
def execUnd79 (s : State) : Result := executeUnassigned s
/-- `UND $7A` (R116). -/
def execUnd7A (s : State) : Result := executeUnassigned s
/-- `UND $7B` (R116). -/
def execUnd7B (s : State) : Result := executeUnassigned s
/-- `UND $7C` (R116). -/
def execUnd7C (s : State) : Result := executeUnassigned s
/-- `UND $7D` (R116). -/
def execUnd7D (s : State) : Result := executeUnassigned s
/-- `UND $7E` (R116). -/
def execUnd7E (s : State) : Result := executeUnassigned s
/-- `UND $7F` (R116). -/
def execUnd7F (s : State) : Result := executeUnassigned s
/-- `UND $80` (R116). -/
def execUnd80 (s : State) : Result := executeUnassigned s
/-- `UND $81` (R116). -/
def execUnd81 (s : State) : Result := executeUnassigned s
/-- `UND $82` (R116). -/
def execUnd82 (s : State) : Result := executeUnassigned s
/-- `UND $83` (R116). -/
def execUnd83 (s : State) : Result := executeUnassigned s
/-- `UND $84` (R116). -/
def execUnd84 (s : State) : Result := executeUnassigned s
/-- `UND $85` (R116). -/
def execUnd85 (s : State) : Result := executeUnassigned s
/-- `UND $86` (R116). -/
def execUnd86 (s : State) : Result := executeUnassigned s
/-- `UND $87` (R116). -/
def execUnd87 (s : State) : Result := executeUnassigned s
/-- `UND $88` (R116). -/
def execUnd88 (s : State) : Result := executeUnassigned s
/-- `UND $89` (R116). -/
def execUnd89 (s : State) : Result := executeUnassigned s
/-- `UND $8A` (R116). -/
def execUnd8A (s : State) : Result := executeUnassigned s
/-- `UND $8B` (R116). -/
def execUnd8B (s : State) : Result := executeUnassigned s
/-- `UND $8C` (R116). -/
def execUnd8C (s : State) : Result := executeUnassigned s
/-- `UND $8D` (R116). -/
def execUnd8D (s : State) : Result := executeUnassigned s
/-- `UND $8E` (R116). -/
def execUnd8E (s : State) : Result := executeUnassigned s
/-- `UND $8F` (R116). -/
def execUnd8F (s : State) : Result := executeUnassigned s
/-- `UND $90` (R116). -/
def execUnd90 (s : State) : Result := executeUnassigned s
/-- `UND $91` (R116). -/
def execUnd91 (s : State) : Result := executeUnassigned s
/-- `UND $92` (R116). -/
def execUnd92 (s : State) : Result := executeUnassigned s
/-- `UND $93` (R116). -/
def execUnd93 (s : State) : Result := executeUnassigned s
/-- `UND $94` (R116). -/
def execUnd94 (s : State) : Result := executeUnassigned s
/-- `UND $95` (R116). -/
def execUnd95 (s : State) : Result := executeUnassigned s
/-- `UND $96` (R116). -/
def execUnd96 (s : State) : Result := executeUnassigned s
/-- `UND $97` (R116). -/
def execUnd97 (s : State) : Result := executeUnassigned s
/-- `UND $98` (R116). -/
def execUnd98 (s : State) : Result := executeUnassigned s
/-- `UND $99` (R116). -/
def execUnd99 (s : State) : Result := executeUnassigned s
/-- `UND $9A` (R116). -/
def execUnd9A (s : State) : Result := executeUnassigned s
/-- `UND $9B` (R116). -/
def execUnd9B (s : State) : Result := executeUnassigned s
/-- `UND $9C` (R116). -/
def execUnd9C (s : State) : Result := executeUnassigned s
/-- `UND $9D` (R116). -/
def execUnd9D (s : State) : Result := executeUnassigned s
/-- `UND $9E` (R116). -/
def execUnd9E (s : State) : Result := executeUnassigned s
/-- `UND $9F` (R116). -/
def execUnd9F (s : State) : Result := executeUnassigned s
/-- `UND $A0` (R116). -/
def execUndA0 (s : State) : Result := executeUnassigned s
/-- `UND $A1` (R116). -/
def execUndA1 (s : State) : Result := executeUnassigned s
/-- `UND $A2` (R116). -/
def execUndA2 (s : State) : Result := executeUnassigned s
/-- `UND $A3` (R116). -/
def execUndA3 (s : State) : Result := executeUnassigned s
/-- `UND $A4` (R116). -/
def execUndA4 (s : State) : Result := executeUnassigned s
/-- `UND $A5` (R116). -/
def execUndA5 (s : State) : Result := executeUnassigned s
/-- `UND $A6` (R116). -/
def execUndA6 (s : State) : Result := executeUnassigned s
/-- `UND $A7` (R116). -/
def execUndA7 (s : State) : Result := executeUnassigned s
/-- `UND $A8` (R116). -/
def execUndA8 (s : State) : Result := executeUnassigned s
/-- `UND $AA` (R116). -/
def execUndAA (s : State) : Result := executeUnassigned s
/-- `UND $AB` (R116). -/
def execUndAB (s : State) : Result := executeUnassigned s
/-- `UND $AC` (R116). -/
def execUndAC (s : State) : Result := executeUnassigned s
/-- `UND $AD` (R116). -/
def execUndAD (s : State) : Result := executeUnassigned s
/-- `UND $AE` (R116). -/
def execUndAE (s : State) : Result := executeUnassigned s
/-- `UND $AF` (R116). -/
def execUndAF (s : State) : Result := executeUnassigned s
/-- `UND $B0` (R116). -/
def execUndB0 (s : State) : Result := executeUnassigned s
/-- `UND $B1` (R116). -/
def execUndB1 (s : State) : Result := executeUnassigned s
/-- `UND $B2` (R116). -/
def execUndB2 (s : State) : Result := executeUnassigned s
/-- `UND $B3` (R116). -/
def execUndB3 (s : State) : Result := executeUnassigned s
/-- `UND $B4` (R116). -/
def execUndB4 (s : State) : Result := executeUnassigned s
/-- `UND $B5` (R116). -/
def execUndB5 (s : State) : Result := executeUnassigned s
/-- `UND $B6` (R116). -/
def execUndB6 (s : State) : Result := executeUnassigned s
/-- `UND $B7` (R116). -/
def execUndB7 (s : State) : Result := executeUnassigned s
/-- `UND $B8` (R116). -/
def execUndB8 (s : State) : Result := executeUnassigned s
/-- `UND $B9` (R116). -/
def execUndB9 (s : State) : Result := executeUnassigned s
/-- `UND $BA` (R116). -/
def execUndBA (s : State) : Result := executeUnassigned s
/-- `UND $BB` (R116). -/
def execUndBB (s : State) : Result := executeUnassigned s
/-- `UND $BC` (R116). -/
def execUndBC (s : State) : Result := executeUnassigned s
/-- `UND $BD` (R116). -/
def execUndBD (s : State) : Result := executeUnassigned s
/-- `UND $BE` (R116). -/
def execUndBE (s : State) : Result := executeUnassigned s
/-- `UND $BF` (R116). -/
def execUndBF (s : State) : Result := executeUnassigned s
/-- `UND $C0` (R116). -/
def execUndC0 (s : State) : Result := executeUnassigned s
/-- `UND $C1` (R116). -/
def execUndC1 (s : State) : Result := executeUnassigned s
/-- `UND $C2` (R116). -/
def execUndC2 (s : State) : Result := executeUnassigned s
/-- `UND $C3` (R116). -/
def execUndC3 (s : State) : Result := executeUnassigned s
/-- `UND $C4` (R116). -/
def execUndC4 (s : State) : Result := executeUnassigned s
/-- `UND $C5` (R116). -/
def execUndC5 (s : State) : Result := executeUnassigned s
/-- `UND $C6` (R116). -/
def execUndC6 (s : State) : Result := executeUnassigned s
/-- `UND $C7` (R116). -/
def execUndC7 (s : State) : Result := executeUnassigned s
/-- `UND $C8` (R116). -/
def execUndC8 (s : State) : Result := executeUnassigned s
/-- `UND $C9` (R116). -/
def execUndC9 (s : State) : Result := executeUnassigned s
/-- `UND $CA` (R116). -/
def execUndCA (s : State) : Result := executeUnassigned s
/-- `UND $CB` (R116). -/
def execUndCB (s : State) : Result := executeUnassigned s
/-- `UND $CC` (R116). -/
def execUndCC (s : State) : Result := executeUnassigned s
/-- `UND $CD` (R116). -/
def execUndCD (s : State) : Result := executeUnassigned s
/-- `UND $CE` (R116). -/
def execUndCE (s : State) : Result := executeUnassigned s
/-- `UND $CF` (R116). -/
def execUndCF (s : State) : Result := executeUnassigned s
/-- `UND $D0` (R116). -/
def execUndD0 (s : State) : Result := executeUnassigned s
/-- `UND $D1` (R116). -/
def execUndD1 (s : State) : Result := executeUnassigned s
/-- `UND $D2` (R116). -/
def execUndD2 (s : State) : Result := executeUnassigned s
/-- `UND $D3` (R116). -/
def execUndD3 (s : State) : Result := executeUnassigned s
/-- `UND $D4` (R116). -/
def execUndD4 (s : State) : Result := executeUnassigned s
/-- `UND $D5` (R116). -/
def execUndD5 (s : State) : Result := executeUnassigned s
/-- `UND $D6` (R116). -/
def execUndD6 (s : State) : Result := executeUnassigned s
/-- `UND $D7` (R116). -/
def execUndD7 (s : State) : Result := executeUnassigned s
/-- `UND $D8` (R116). -/
def execUndD8 (s : State) : Result := executeUnassigned s
/-- `UND $D9` (R116). -/
def execUndD9 (s : State) : Result := executeUnassigned s
/-- `UND $DA` (R116). -/
def execUndDA (s : State) : Result := executeUnassigned s
/-- `UND $DB` (R116). -/
def execUndDB (s : State) : Result := executeUnassigned s
/-- `UND $DC` (R116). -/
def execUndDC (s : State) : Result := executeUnassigned s
/-- `UND $DD` (R116). -/
def execUndDD (s : State) : Result := executeUnassigned s
/-- `UND $DE` (R116). -/
def execUndDE (s : State) : Result := executeUnassigned s
/-- `UND $DF` (R116). -/
def execUndDF (s : State) : Result := executeUnassigned s
/-- `UND $E0` (R116). -/
def execUndE0 (s : State) : Result := executeUnassigned s
/-- `UND $E1` (R116). -/
def execUndE1 (s : State) : Result := executeUnassigned s
/-- `UND $E2` (R116). -/
def execUndE2 (s : State) : Result := executeUnassigned s
/-- `UND $E3` (R116). -/
def execUndE3 (s : State) : Result := executeUnassigned s
/-- `UND $E4` (R116). -/
def execUndE4 (s : State) : Result := executeUnassigned s
/-- `UND $E5` (R116). -/
def execUndE5 (s : State) : Result := executeUnassigned s
/-- `UND $E6` (R116). -/
def execUndE6 (s : State) : Result := executeUnassigned s
/-- `UND $E7` (R116). -/
def execUndE7 (s : State) : Result := executeUnassigned s
/-- `UND $E8` (R116). -/
def execUndE8 (s : State) : Result := executeUnassigned s
/-- `UND $E9` (R116). -/
def execUndE9 (s : State) : Result := executeUnassigned s
/-- `UND $EB` (R116). -/
def execUndEB (s : State) : Result := executeUnassigned s
/-- `UND $EC` (R116). -/
def execUndEC (s : State) : Result := executeUnassigned s
/-- `UND $ED` (R116). -/
def execUndED (s : State) : Result := executeUnassigned s
/-- `UND $EE` (R116). -/
def execUndEE (s : State) : Result := executeUnassigned s
/-- `UND $EF` (R116). -/
def execUndEF (s : State) : Result := executeUnassigned s
/-- `UND $F0` (R116). -/
def execUndF0 (s : State) : Result := executeUnassigned s
/-- `UND $F1` (R116). -/
def execUndF1 (s : State) : Result := executeUnassigned s
/-- `UND $F2` (R116). -/
def execUndF2 (s : State) : Result := executeUnassigned s
/-- `UND $F3` (R116). -/
def execUndF3 (s : State) : Result := executeUnassigned s
/-- `UND $F4` (R116). -/
def execUndF4 (s : State) : Result := executeUnassigned s
/-- `UND $F5` (R116). -/
def execUndF5 (s : State) : Result := executeUnassigned s
/-- `UND $F6` (R116). -/
def execUndF6 (s : State) : Result := executeUnassigned s
/-- `UND $F7` (R116). -/
def execUndF7 (s : State) : Result := executeUnassigned s
/-- `UND $F8` (R116). -/
def execUndF8 (s : State) : Result := executeUnassigned s
/-- `UND $F9` (R116). -/
def execUndF9 (s : State) : Result := executeUnassigned s
/-- `UND $FA` (R116). -/
def execUndFA (s : State) : Result := executeUnassigned s
/-- `UND $FB` (R116). -/
def execUndFB (s : State) : Result := executeUnassigned s
/-- `UND $FC` (R116). -/
def execUndFC (s : State) : Result := executeUnassigned s
/-- `UND $FD` (R116). -/
def execUndFD (s : State) : Result := executeUnassigned s
/-- `UND $FE` (R116). -/
def execUndFE (s : State) : Result := executeUnassigned s
/-- `UND $FF` (R116). -/
def execUndFF (s : State) : Result := executeUnassigned s

end Sys2Proof.Machine
end

