-- ==== Sys2Proof/Machine/Dispatch.lean ====
section
/-! DEFINITION. One arm per opcode (spec/30_encoding.md R84, spec/40_step_cycle.md R102). -/

namespace Sys2Proof.Machine

def exec (i : Instr) (s : State) : Host.Outcome State Fault Refusal :=
  match i with
  | .brk => Sys2Proof.Machine.execBrk s
  | .und01 => Sys2Proof.Machine.execUnd01 s
  | .und02 => Sys2Proof.Machine.execUnd02 s
  | .und03 => Sys2Proof.Machine.execUnd03 s
  | .und04 => Sys2Proof.Machine.execUnd04 s
  | .und05 => Sys2Proof.Machine.execUnd05 s
  | .und06 => Sys2Proof.Machine.execUnd06 s
  | .und07 => Sys2Proof.Machine.execUnd07 s
  | .und08 => Sys2Proof.Machine.execUnd08 s
  | .und09 => Sys2Proof.Machine.execUnd09 s
  | .und0A => Sys2Proof.Machine.execUnd0A s
  | .und0B => Sys2Proof.Machine.execUnd0B s
  | .und0C => Sys2Proof.Machine.execUnd0C s
  | .und0D => Sys2Proof.Machine.execUnd0D s
  | .und0E => Sys2Proof.Machine.execUnd0E s
  | .und0F => Sys2Proof.Machine.execUnd0F s
  | .und10 => Sys2Proof.Machine.execUnd10 s
  | .und11 => Sys2Proof.Machine.execUnd11 s
  | .und12 => Sys2Proof.Machine.execUnd12 s
  | .und13 => Sys2Proof.Machine.execUnd13 s
  | .und14 => Sys2Proof.Machine.execUnd14 s
  | .und15 => Sys2Proof.Machine.execUnd15 s
  | .und16 => Sys2Proof.Machine.execUnd16 s
  | .und17 => Sys2Proof.Machine.execUnd17 s
  | .und18 => Sys2Proof.Machine.execUnd18 s
  | .und19 => Sys2Proof.Machine.execUnd19 s
  | .und1A => Sys2Proof.Machine.execUnd1A s
  | .und1B => Sys2Proof.Machine.execUnd1B s
  | .und1C => Sys2Proof.Machine.execUnd1C s
  | .und1D => Sys2Proof.Machine.execUnd1D s
  | .und1E => Sys2Proof.Machine.execUnd1E s
  | .und1F => Sys2Proof.Machine.execUnd1F s
  | .und20 => Sys2Proof.Machine.execUnd20 s
  | .und21 => Sys2Proof.Machine.execUnd21 s
  | .und22 => Sys2Proof.Machine.execUnd22 s
  | .und23 => Sys2Proof.Machine.execUnd23 s
  | .und24 => Sys2Proof.Machine.execUnd24 s
  | .und25 => Sys2Proof.Machine.execUnd25 s
  | .und26 => Sys2Proof.Machine.execUnd26 s
  | .und27 => Sys2Proof.Machine.execUnd27 s
  | .und28 => Sys2Proof.Machine.execUnd28 s
  | .und29 => Sys2Proof.Machine.execUnd29 s
  | .und2A => Sys2Proof.Machine.execUnd2A s
  | .und2B => Sys2Proof.Machine.execUnd2B s
  | .und2C => Sys2Proof.Machine.execUnd2C s
  | .und2D => Sys2Proof.Machine.execUnd2D s
  | .und2E => Sys2Proof.Machine.execUnd2E s
  | .und2F => Sys2Proof.Machine.execUnd2F s
  | .und30 => Sys2Proof.Machine.execUnd30 s
  | .und31 => Sys2Proof.Machine.execUnd31 s
  | .und32 => Sys2Proof.Machine.execUnd32 s
  | .und33 => Sys2Proof.Machine.execUnd33 s
  | .und34 => Sys2Proof.Machine.execUnd34 s
  | .und35 => Sys2Proof.Machine.execUnd35 s
  | .und36 => Sys2Proof.Machine.execUnd36 s
  | .und37 => Sys2Proof.Machine.execUnd37 s
  | .und38 => Sys2Proof.Machine.execUnd38 s
  | .und39 => Sys2Proof.Machine.execUnd39 s
  | .und3A => Sys2Proof.Machine.execUnd3A s
  | .und3B => Sys2Proof.Machine.execUnd3B s
  | .und3C => Sys2Proof.Machine.execUnd3C s
  | .und3D => Sys2Proof.Machine.execUnd3D s
  | .und3E => Sys2Proof.Machine.execUnd3E s
  | .und3F => Sys2Proof.Machine.execUnd3F s
  | .und40 => Sys2Proof.Machine.execUnd40 s
  | .und41 => Sys2Proof.Machine.execUnd41 s
  | .und42 => Sys2Proof.Machine.execUnd42 s
  | .und43 => Sys2Proof.Machine.execUnd43 s
  | .und44 => Sys2Proof.Machine.execUnd44 s
  | .und45 => Sys2Proof.Machine.execUnd45 s
  | .und46 => Sys2Proof.Machine.execUnd46 s
  | .und47 => Sys2Proof.Machine.execUnd47 s
  | .und48 => Sys2Proof.Machine.execUnd48 s
  | .und49 => Sys2Proof.Machine.execUnd49 s
  | .und4A => Sys2Proof.Machine.execUnd4A s
  | .und4B => Sys2Proof.Machine.execUnd4B s
  | .und4C => Sys2Proof.Machine.execUnd4C s
  | .und4D => Sys2Proof.Machine.execUnd4D s
  | .und4E => Sys2Proof.Machine.execUnd4E s
  | .und4F => Sys2Proof.Machine.execUnd4F s
  | .und50 => Sys2Proof.Machine.execUnd50 s
  | .und51 => Sys2Proof.Machine.execUnd51 s
  | .und52 => Sys2Proof.Machine.execUnd52 s
  | .und53 => Sys2Proof.Machine.execUnd53 s
  | .und54 => Sys2Proof.Machine.execUnd54 s
  | .und55 => Sys2Proof.Machine.execUnd55 s
  | .und56 => Sys2Proof.Machine.execUnd56 s
  | .und57 => Sys2Proof.Machine.execUnd57 s
  | .und58 => Sys2Proof.Machine.execUnd58 s
  | .und59 => Sys2Proof.Machine.execUnd59 s
  | .und5A => Sys2Proof.Machine.execUnd5A s
  | .und5B => Sys2Proof.Machine.execUnd5B s
  | .und5C => Sys2Proof.Machine.execUnd5C s
  | .und5D => Sys2Proof.Machine.execUnd5D s
  | .und5E => Sys2Proof.Machine.execUnd5E s
  | .und5F => Sys2Proof.Machine.execUnd5F s
  | .und60 => Sys2Proof.Machine.execUnd60 s
  | .und61 => Sys2Proof.Machine.execUnd61 s
  | .und62 => Sys2Proof.Machine.execUnd62 s
  | .und63 => Sys2Proof.Machine.execUnd63 s
  | .und64 => Sys2Proof.Machine.execUnd64 s
  | .und65 => Sys2Proof.Machine.execUnd65 s
  | .und66 => Sys2Proof.Machine.execUnd66 s
  | .und67 => Sys2Proof.Machine.execUnd67 s
  | .und68 => Sys2Proof.Machine.execUnd68 s
  | .und69 => Sys2Proof.Machine.execUnd69 s
  | .und6A => Sys2Proof.Machine.execUnd6A s
  | .und6B => Sys2Proof.Machine.execUnd6B s
  | .und6C => Sys2Proof.Machine.execUnd6C s
  | .und6D => Sys2Proof.Machine.execUnd6D s
  | .und6E => Sys2Proof.Machine.execUnd6E s
  | .und6F => Sys2Proof.Machine.execUnd6F s
  | .und70 => Sys2Proof.Machine.execUnd70 s
  | .und71 => Sys2Proof.Machine.execUnd71 s
  | .und72 => Sys2Proof.Machine.execUnd72 s
  | .und73 => Sys2Proof.Machine.execUnd73 s
  | .und74 => Sys2Proof.Machine.execUnd74 s
  | .und75 => Sys2Proof.Machine.execUnd75 s
  | .und76 => Sys2Proof.Machine.execUnd76 s
  | .und77 => Sys2Proof.Machine.execUnd77 s
  | .und78 => Sys2Proof.Machine.execUnd78 s
  | .und79 => Sys2Proof.Machine.execUnd79 s
  | .und7A => Sys2Proof.Machine.execUnd7A s
  | .und7B => Sys2Proof.Machine.execUnd7B s
  | .und7C => Sys2Proof.Machine.execUnd7C s
  | .und7D => Sys2Proof.Machine.execUnd7D s
  | .und7E => Sys2Proof.Machine.execUnd7E s
  | .und7F => Sys2Proof.Machine.execUnd7F s
  | .und80 => Sys2Proof.Machine.execUnd80 s
  | .und81 => Sys2Proof.Machine.execUnd81 s
  | .und82 => Sys2Proof.Machine.execUnd82 s
  | .und83 => Sys2Proof.Machine.execUnd83 s
  | .und84 => Sys2Proof.Machine.execUnd84 s
  | .und85 => Sys2Proof.Machine.execUnd85 s
  | .und86 => Sys2Proof.Machine.execUnd86 s
  | .und87 => Sys2Proof.Machine.execUnd87 s
  | .und88 => Sys2Proof.Machine.execUnd88 s
  | .und89 => Sys2Proof.Machine.execUnd89 s
  | .und8A => Sys2Proof.Machine.execUnd8A s
  | .und8B => Sys2Proof.Machine.execUnd8B s
  | .und8C => Sys2Proof.Machine.execUnd8C s
  | .und8D => Sys2Proof.Machine.execUnd8D s
  | .und8E => Sys2Proof.Machine.execUnd8E s
  | .und8F => Sys2Proof.Machine.execUnd8F s
  | .und90 => Sys2Proof.Machine.execUnd90 s
  | .und91 => Sys2Proof.Machine.execUnd91 s
  | .und92 => Sys2Proof.Machine.execUnd92 s
  | .und93 => Sys2Proof.Machine.execUnd93 s
  | .und94 => Sys2Proof.Machine.execUnd94 s
  | .und95 => Sys2Proof.Machine.execUnd95 s
  | .und96 => Sys2Proof.Machine.execUnd96 s
  | .und97 => Sys2Proof.Machine.execUnd97 s
  | .und98 => Sys2Proof.Machine.execUnd98 s
  | .und99 => Sys2Proof.Machine.execUnd99 s
  | .und9A => Sys2Proof.Machine.execUnd9A s
  | .und9B => Sys2Proof.Machine.execUnd9B s
  | .und9C => Sys2Proof.Machine.execUnd9C s
  | .und9D => Sys2Proof.Machine.execUnd9D s
  | .und9E => Sys2Proof.Machine.execUnd9E s
  | .und9F => Sys2Proof.Machine.execUnd9F s
  | .undA0 => Sys2Proof.Machine.execUndA0 s
  | .undA1 => Sys2Proof.Machine.execUndA1 s
  | .undA2 => Sys2Proof.Machine.execUndA2 s
  | .undA3 => Sys2Proof.Machine.execUndA3 s
  | .undA4 => Sys2Proof.Machine.execUndA4 s
  | .undA5 => Sys2Proof.Machine.execUndA5 s
  | .undA6 => Sys2Proof.Machine.execUndA6 s
  | .undA7 => Sys2Proof.Machine.execUndA7 s
  | .undA8 => Sys2Proof.Machine.execUndA8 s
  | .ldaImm imm8 => Sys2Proof.Machine.execLdaImm imm8 s
  | .undAA => Sys2Proof.Machine.execUndAA s
  | .undAB => Sys2Proof.Machine.execUndAB s
  | .undAC => Sys2Proof.Machine.execUndAC s
  | .undAD => Sys2Proof.Machine.execUndAD s
  | .undAE => Sys2Proof.Machine.execUndAE s
  | .undAF => Sys2Proof.Machine.execUndAF s
  | .undB0 => Sys2Proof.Machine.execUndB0 s
  | .undB1 => Sys2Proof.Machine.execUndB1 s
  | .undB2 => Sys2Proof.Machine.execUndB2 s
  | .undB3 => Sys2Proof.Machine.execUndB3 s
  | .undB4 => Sys2Proof.Machine.execUndB4 s
  | .undB5 => Sys2Proof.Machine.execUndB5 s
  | .undB6 => Sys2Proof.Machine.execUndB6 s
  | .undB7 => Sys2Proof.Machine.execUndB7 s
  | .undB8 => Sys2Proof.Machine.execUndB8 s
  | .undB9 => Sys2Proof.Machine.execUndB9 s
  | .undBA => Sys2Proof.Machine.execUndBA s
  | .undBB => Sys2Proof.Machine.execUndBB s
  | .undBC => Sys2Proof.Machine.execUndBC s
  | .undBD => Sys2Proof.Machine.execUndBD s
  | .undBE => Sys2Proof.Machine.execUndBE s
  | .undBF => Sys2Proof.Machine.execUndBF s
  | .undC0 => Sys2Proof.Machine.execUndC0 s
  | .undC1 => Sys2Proof.Machine.execUndC1 s
  | .undC2 => Sys2Proof.Machine.execUndC2 s
  | .undC3 => Sys2Proof.Machine.execUndC3 s
  | .undC4 => Sys2Proof.Machine.execUndC4 s
  | .undC5 => Sys2Proof.Machine.execUndC5 s
  | .undC6 => Sys2Proof.Machine.execUndC6 s
  | .undC7 => Sys2Proof.Machine.execUndC7 s
  | .undC8 => Sys2Proof.Machine.execUndC8 s
  | .undC9 => Sys2Proof.Machine.execUndC9 s
  | .undCA => Sys2Proof.Machine.execUndCA s
  | .undCB => Sys2Proof.Machine.execUndCB s
  | .undCC => Sys2Proof.Machine.execUndCC s
  | .undCD => Sys2Proof.Machine.execUndCD s
  | .undCE => Sys2Proof.Machine.execUndCE s
  | .undCF => Sys2Proof.Machine.execUndCF s
  | .undD0 => Sys2Proof.Machine.execUndD0 s
  | .undD1 => Sys2Proof.Machine.execUndD1 s
  | .undD2 => Sys2Proof.Machine.execUndD2 s
  | .undD3 => Sys2Proof.Machine.execUndD3 s
  | .undD4 => Sys2Proof.Machine.execUndD4 s
  | .undD5 => Sys2Proof.Machine.execUndD5 s
  | .undD6 => Sys2Proof.Machine.execUndD6 s
  | .undD7 => Sys2Proof.Machine.execUndD7 s
  | .undD8 => Sys2Proof.Machine.execUndD8 s
  | .undD9 => Sys2Proof.Machine.execUndD9 s
  | .undDA => Sys2Proof.Machine.execUndDA s
  | .undDB => Sys2Proof.Machine.execUndDB s
  | .undDC => Sys2Proof.Machine.execUndDC s
  | .undDD => Sys2Proof.Machine.execUndDD s
  | .undDE => Sys2Proof.Machine.execUndDE s
  | .undDF => Sys2Proof.Machine.execUndDF s
  | .undE0 => Sys2Proof.Machine.execUndE0 s
  | .undE1 => Sys2Proof.Machine.execUndE1 s
  | .undE2 => Sys2Proof.Machine.execUndE2 s
  | .undE3 => Sys2Proof.Machine.execUndE3 s
  | .undE4 => Sys2Proof.Machine.execUndE4 s
  | .undE5 => Sys2Proof.Machine.execUndE5 s
  | .undE6 => Sys2Proof.Machine.execUndE6 s
  | .undE7 => Sys2Proof.Machine.execUndE7 s
  | .undE8 => Sys2Proof.Machine.execUndE8 s
  | .undE9 => Sys2Proof.Machine.execUndE9 s
  | .nop => Sys2Proof.Machine.execNop s
  | .undEB => Sys2Proof.Machine.execUndEB s
  | .undEC => Sys2Proof.Machine.execUndEC s
  | .undED => Sys2Proof.Machine.execUndED s
  | .undEE => Sys2Proof.Machine.execUndEE s
  | .undEF => Sys2Proof.Machine.execUndEF s
  | .undF0 => Sys2Proof.Machine.execUndF0 s
  | .undF1 => Sys2Proof.Machine.execUndF1 s
  | .undF2 => Sys2Proof.Machine.execUndF2 s
  | .undF3 => Sys2Proof.Machine.execUndF3 s
  | .undF4 => Sys2Proof.Machine.execUndF4 s
  | .undF5 => Sys2Proof.Machine.execUndF5 s
  | .undF6 => Sys2Proof.Machine.execUndF6 s
  | .undF7 => Sys2Proof.Machine.execUndF7 s
  | .undF8 => Sys2Proof.Machine.execUndF8 s
  | .undF9 => Sys2Proof.Machine.execUndF9 s
  | .undFA => Sys2Proof.Machine.execUndFA s
  | .undFB => Sys2Proof.Machine.execUndFB s
  | .undFC => Sys2Proof.Machine.execUndFC s
  | .undFD => Sys2Proof.Machine.execUndFD s
  | .undFE => Sys2Proof.Machine.execUndFE s
  | .undFF => Sys2Proof.Machine.execUndFF s

end Sys2Proof.Machine
end

