-- ==== Sys2Proof/Machine/Fetch.lean ====
section
/-! DEFINITION. Placing an instruction where the next step fetches it (log entry 39). -/

namespace Sys2Proof.Machine

/-- The image with byte `k` replaced; an image that is too short is filled up with 0x00, which is what the window shows beyond
its end anyway (R51). -/
def pokeImage : List Byte → Nat → Byte → List Byte
  | [], k, v => List.replicate k 0x00#8 ++ [v]
  | _ :: rom, 0, v => v :: rom
  | w :: rom, k + 1, v => w :: pokeImage rom k v

/-- The address is backed: RAM or the window (R51). -/
def backed (a : Addr) : Bool := a.toNat < Config.ramBoundary || Config.romBase ≤ a.toNat

/-- `s` with `v` at the address `a`: in RAM, or in the image, which is then loaded (R29). An unbacked address holds nothing. -/
def State.place (s : State) (a : Addr) (v : Byte) : State :=
  if a.toNat < Config.ramBoundary then s.writeByte a v
  else if Config.romBase ≤ a.toNat then (s.setRom (pokeImage s.rom (a.toNat - Config.romBase) v)).setLoaded true
  else s

/-- `s` with `pc` moved to the entry point if an instruction at `pc` would reach into the unmapped region, where none but `BRK`
can stand (R51, R87). -/
def State.atBackedPc (s : State) : State :=
  if backed s.pc && backed (operandAddress s.pc) then s else s.setPc Config.entryPoint

/-- `s` with an opcode and the byte after it where the next step fetches them. -/
def State.placeInstr (s : State) (op operand : Byte) : State :=
  (s.atBackedPc.place s.atBackedPc.pc op).place (operandAddress s.atBackedPc.pc) operand

end Sys2Proof.Machine
end

