-- ==== Sys2Proof/Machine/Step.lean ====
section
/-! DEFINITION. The step of the instruction unit (spec/40_step_cycle.md R100). -/

namespace Sys2Proof.Machine

/-- `step()` (R100): fetch the instruction at `pc` and execute it. Its outcome is left in `stepResult`. -/
def step (s : State) : Host.Outcome State Fault Refusal := exec (fetch s) s

/-- `s` with the bytes of the table word `w` where the next step fetches its instruction (log entry 39). -/
def State.withFetchWord (s : State) (nbits w : Nat) : State :=
  s.placeInstr (tableByte nbits w 0) (tableByte nbits w 1)

end Sys2Proof.Machine
end

