-- ==== Sys2Proof/Machine/Pseudocode.lean ====
section
/-! DEFINITION. The step as spec/40_step_cycle.md R100 to R104 write it down, line by line, with the operand fetched by the
instruction's own rule at stage 4. `step` is meant to equal it. -/

namespace Sys2Proof.Machine.Pseudocode

/-- The cost column of R103. -/
def cost (op : Byte) : Nat :=
  if op = 0xA9#8 then Config.costLdaImm
  else if op = 0xEA#8 then Config.costNop
  else if op = 0x00#8 then Config.costHalt
  else Config.costMin

/-- Stage 1 (R101). -/
def stage1 (s : State) : Result :=
  if s.startupPending = true then
    andThen (addCycles Config.startupOverhead s) fun s' => .next { s' with startupPending := false }
  else .next s

/-- Stage 4 (R102): R110 for 0xA9, R120 for 0x00, and nothing for every other opcode (R115, R116). -/
def stage4 (op : Byte) (s : State) : State :=
  if op = 0xA9#8 then
    let v := s.readByte s.pc
    let s' := { s with pc := s.pc + 1#16 }
    { s' with a := v, p := Config.flagsLda s'.p v }
  else s

/-- Stage 6. -/
def stage6 (op : Byte) (s : State) : State :=
  { s with stepResult := some (if op = 0x00#8 then .halted else .continued) }

/-- `step()`, stages 1 to 6 in order (R100). -/
def step (s : State) : Result :=
  andThen (stage1 s) fun s₁ =>
    let op := s₁.readByte s₁.pc
    let s₃ := { s₁ with pc := s₁.pc + 1#16 }
    let s₄ := stage4 op s₃
    andThen (addCycles (cost op) s₄) fun s₅ => .next (stage6 op s₅)

end Sys2Proof.Machine.Pseudocode
end

