-- ==== Sys2Proof/Machine/Frame.lean ====
section
/-! DEFINITION. The frame-buffer generator (spec/45_frame_generator.md). It reads no state of the machine (R130, R135). -/

namespace Sys2Proof.Machine

/-- The number of bytes of a frame: 256 * 224 * 3 = 172032 (R131). -/
def frameBytes : Nat := Config.frameWidth * Config.frameHeight * Config.frameChannels

/-- A frame: a fresh value, not state (R32, R131, R134; log entry 43). -/
abbrev Frame := Vector Byte frameBytes

/-- Where channel `c` of the pixel at column `x`, row `y` lies (R131, the spec's D15; log entry 15). -/
def byteIndex (x : Fin Config.frameWidth) (y : Fin Config.frameHeight) (c : Fin Config.frameChannels) : Nat :=
  (y.val * Config.frameWidth + x.val) * Config.frameChannels + c.val

/-- The column of the pixel a byte belongs to. -/
def columnOf (k : Nat) : Fin Config.frameWidth := ⟨k / 3 % 256, Nat.mod_lt _ (by decide)⟩

/-- The row of the pixel a byte belongs to. -/
def rowOf (k : Fin frameBytes) : Fin Config.frameHeight :=
  ⟨k.val / 3 / 256, by
    have h : k.val < 172032 := k.isLt
    show k.val / 3 / 256 < 224
    omega⟩

/-- Channel 0, 1 or 2 of a pixel (R131). -/
def channel (q : Pixel) (c : Nat) : Byte := if c = 0 then q.c0 else if c = 1 then q.c1 else q.c2

/-- `render_frame(n)` for a pixel function (R130, R133, R136). -/
@[irreducible] def renderFrame (pattern : Pattern) (n : Nat) : Frame :=
  Vector.ofFn fun k => channel (pattern (columnOf k.val) (rowOf k) n) (k.val % 3)

/-- The pixel of a frame at column `x`, row `y`. -/
def Frame.pixel (f : Frame) (x : Fin Config.frameWidth) (y : Fin Config.frameHeight) : Pixel where
  c0 := f.toArray.getD (byteIndex x y 0) 0x00#8
  c1 := f.toArray.getD (byteIndex x y 1) 0x00#8
  c2 := f.toArray.getD (byteIndex x y 2) 0x00#8

end Sys2Proof.Machine
end

