-- ==== Sys2Proof/Machine/Latch.lean ====
section
/-! DEFINITION. The input latch (spec/46_input_latch.md). No instruction and no address reaches it (R144; log entry 17). -/

namespace Sys2Proof.Machine

/-- The bitmask a latch of `width` bits keeps (R141): modulo `2^width` (the spec's D16; log entry 16). -/
def latchBits (width : Nat) (bitmask : Nat) : BitVec width := BitVec.ofNat width bitmask

/-- `set_state(bitmask)` (R141): a total overwrite of `BTN`. -/
def State.setLatch (s : State) (bitmask : Nat) : State := s.setBtn (latchBits Config.latchWidth bitmask)

/-- `state()` (R142): the latest bitmask. It changes nothing. -/
def State.latchState (s : State) : BitVec Config.latchWidth := s.btn

end Sys2Proof.Machine
end

