-- ==== Sys2Proof/Machine/Session.lean ====
section
/-! DEFINITION. The session sequencer (spec/47_session_operations.md): what each command of the host does and answers, and the
moves of host and stepper while a `run_frame` is in progress (R60, R61, R160). -/

namespace Sys2Proof.Machine.Session

/-- The parameters the sequencer depends on (R6): the step budget and the pixel function. -/
structure Params where
  stepsPerFrame : Nat
  pattern : Pattern

/-- The hardware's own parameters, both OPEN (log entries 12, 14). -/
def hardware : Params where
  stepsPerFrame := Config.stepsPerFrame
  pattern := Config.pattern

/-- What the host can ask for (R160). -/
inductive Command where
  /-- `load(image)`, or `load(none)` where the image could not be read (R150, R159). -/
  | load (image : Option (List Byte))
  /-- `reset()` (R151). -/
  | reset
  /-- `run_frame()` (R152). -/
  | runFrame
  /-- `set_input(bitmask)` (R154). -/
  | setInput (bitmask : Nat)
  /-- `save_state(slot)` (R155). -/
  | saveState (slot : Int)
  /-- `load_state(slot)` (R156, R157). -/
  | loadState (slot : Int)
  /-- The debug port's `read_byte(address)` (R158). -/
  | debugRead (address : Int)
  /-- The debug port's `write_byte(address, value)` (R158). -/
  | debugWrite (address value : Int)
  /-- The latch's read port `state()`, as the host-side reader of R144 uses it between frames (R142). -/
  | readLatch
  /-- The read of `frame_count`, `CYC`, `pc`, `A`, `loaded` (R160). -/
  | readStatus
  deriving DecidableEq, Repr

/-- What a status read hands back (R160). -/
structure Status where
  frameCount : Nat
  cyc : CycleCount
  pc : Addr
  a : Byte
  loaded : Bool
  deriving DecidableEq, Repr

/-- The results of R161. -/
inductive Response where
  | loaded
  | ioFailure
  /-- The result of a command that has none. -/
  | done
  | noFrame
  | frame (f : Frame) (batch : Batch)
  | restored
  | noSuchSlot
  | byte (v : Byte)
  | latch (bits : BitVec Config.latchWidth)
  | status (st : Status)
  /-- The model's own: a `run_frame` has begun, or goes on, and has no result yet. -/
  | running
  deriving DecidableEq, Repr

/-- The frame a response carries, if it carries one. -/
def Response.frame? : Response → Option Frame
  | .frame f _ => some f
  | _ => none

/-- A state and a response, or the reason there is none. -/
abbrev Answer := Host.Outcome (State × Response) Fault Refusal

/-! ### The commands -/

/-- `reset()` (R151, R201): `pc`, `CYC`, `startup_pending` and `frame_count`, and nothing else (the spec's D9; log entry 9). -/
def resetSession (s : State) : State :=
  (((s.setPc Config.entryPoint).setCyc 0#64).setStartupPending true).setFrameCount 0

/-- `load(image)` (R150; log entry 10), or a failed load, which changes nothing (R159; log entry 29). -/
def load (image : Option (List Byte)) (s : State) : State × Response :=
  match image with
  | some bytes => (resetSession ((s.loadProgram bytes).setLoaded true), .loaded)
  | none => (s, .ioFailure)

/-- `save_state(slot)` (R155; log entry 20). -/
def saveState (slot : Int) (s : State) : State := s.setSlots (s.slots.put slot s.snapshot)

/-- `load_state(slot)` (R156, R157; log entry 30). -/
def loadState (slot : Int) (s : State) : State × Response :=
  match s.slots.find slot with
  | some x => (s.restore x, .restored)
  | none => (s, .noSuchSlot)

/-- The status the host reads (R160). -/
def status (s : State) : Status where
  frameCount := s.frameCount
  cyc := s.cyc
  pc := s.pc
  a := s.a
  loaded := s.loaded

/-- The steps of one batch (R152), the first of them numbered `k`: at most `budget`, and none after one that halts (R153). The
step's result is taken as it is returned, so nothing remembers it (R32, R184). -/
def runBatch : (budget k : Nat) → State → Host.Outcome (State × Batch) Fault Refusal
  | 0, _, s => .next (s, .completed)
  | budget + 1, k, s =>
    andThen (step s) fun s' =>
      if s'.stepResult = some .halted then .next (s'.setStepResult none, .haltedAt k)
      else runBatch budget (k + 1) (s'.setStepResult none)

/-- `render_frame(frame_count)`, then the increment (R152, the spec's D13; log entry 13). -/
def finishFrame (q : Params) (batch : Batch) (s : State) : State × Response :=
  (s.setFrameCount (s.frameCount + 1), .frame (renderFrame q.pattern s.frameCount) batch)

/-- `run_frame()` (R152). -/
def runFrame (q : Params) (s : State) : Answer :=
  if s.loaded then andThen (runBatch q.stepsPerFrame 1 s) fun r => .next (finishFrame q r.2 r.1)
  else .next (s, .noFrame)

/-- What each command does when no `run_frame` is in progress (R161). -/
def perform (q : Params) : Command → State → Answer
  | .load image, s => .next (load image s)
  | .reset, s => .next (resetSession s, .done)
  | .runFrame, s => runFrame q s
  | .setInput bitmask, s => .next (s.setLatch bitmask, .done)
  | .saveState slot, s => .next (saveState slot s, .done)
  | .loadState slot, s => .next (loadState slot s)
  | .debugRead address, s => .next (s, .byte (s.readPort address))
  | .debugWrite address value, s => .next (s.writePort address value, .done)
  | .readLatch, s => .next (s, .latch s.latchState)
  | .readStatus, s => .next (s, .status (status s))

/-- The one command that has a move while a `run_frame` is in progress is `set_input` (R60, R61, R154, R160; log entries 19, 35). -/
def Command.duringFrame : Command → Bool
  | .load _ => false
  | .reset => false
  | .runFrame => false
  | .setInput _ => true
  | .saveState _ => false
  | .loadState _ => false
  | .debugRead _ => false
  | .debugWrite _ _ => false
  | .readLatch => false
  | .readStatus => false

/-- The host has a move for a command (R160). -/
def hasMove (c : Command) (s : State) : Bool := s.frameRun.isNone || c.duringFrame

/-- One command as the host issues it: no move (`none`) where the host owes it to wait (R60, R205, 93 U7; log entry 35). -/
def issue (q : Params) (c : Command) (s : State) : Option Answer := if hasMove c s then some (perform q c s) else none

/-- A run: a finite sequence of commands from a start state (R12; log entry 31), with the responses in order. -/
def run (q : Params) : List Command → State → Option (Host.Outcome (State × List Response) Fault Refusal)
  | [], s => some (.next (s, []))
  | c :: cs, s =>
    match issue q c s with
    | none => none
    | some (.fault r) => some (.fault r)
    | some (.refused r) => some (.refused r)
    | some (.next (t, x)) =>
      match run q cs t with
      | none => none
      | some o => some (andThen o fun u => .next (u.1, x :: u.2))

/-! ### The moves of host and stepper (R60, R61) -/

/-- `run_frame` begins (R152). -/
def beginFrame (s : State) : State × Response :=
  if s.loaded then (s.setFrameRun (some { taken := 0, batch := .completed }), .running) else (s, .noFrame)

/-- What the sequencer notes of a step it has just had performed: one more step, and the halt if it halted (R152, R153). -/
def noteStep (r : FrameRun) (s : State) : State :=
  (s.setFrameRun (some { taken := r.taken + 1
                         batch := if s.stepResult = some .halted then .haltedAt (r.taken + 1) else .completed })).setStepResult
    none

/-- The stepper's next move in a `run_frame` in progress: a step while the budget lasts and none has halted, else the frame,
its count and the end (R152, R153). -/
def stepperMove (q : Params) (r : FrameRun) (s : State) : Answer :=
  if r.batch = .completed ∧ r.taken < q.stepsPerFrame then andThen (step s) fun s' => .next (noteStep r s', .running)
  else .next (finishFrame q r.batch (s.setFrameRun none))

/-- Who moves: the host with a command, the stepper, or a reader on the machine's side of the latch (R140, R145; log entry 42). -/
inductive Move where
  | host (c : Command)
  | stepper
  | sampleLatch
  deriving DecidableEq, Repr

/-- The move is a `set_input`. -/
def Move.isInput : Move → Bool
  | .host (.setInput _) => true
  | _ => false

/-- One move. A `run_frame` takes a move to begin, one for each of its steps and one to end, so that a `set_input` can land at
any step boundary (R61, R145); `none` is no move. -/
def move (q : Params) : Move → State → Option Answer
  | .host c, s =>
    if hasMove c s then some (if c = .runFrame then .next (beginFrame s) else perform q c s) else none
  | .stepper, s =>
    match s.frameRun with
    | none => none
    | some r => some (stepperMove q r s)
  | .sampleLatch, s => some (.next (s, .latch s.latchState))

/-- A sequence of moves, with the responses in order. -/
def moves (q : Params) : List Move → State → Option (Host.Outcome (State × List Response) Fault Refusal)
  | [], s => some (.next (s, []))
  | m :: ms, s =>
    match move q m s with
    | none => none
    | some (.fault r) => some (.fault r)
    | some (.refused r) => some (.refused r)
    | some (.next (t, x)) =>
      match moves q ms t with
      | none => none
      | some o => some (andThen o fun u => .next (u.1, x :: u.2))

end Sys2Proof.Machine.Session
end

