-- ==== Sys2Proof/Safety.lean ====
section
/-! DEFINITION. What a safe state and a safe run are, in the terms the statements use. -/

namespace Sys2Proof.Machine

/-- The cycles a step of an instruction with a given cost adds to `CYC` from `s` (R101, R103, R210). -/
def chargeOf (cost : Nat) (s : State) : Nat := (if s.startupPending then Config.startupOverhead else 0) + cost

/-- The addition a step of an instruction with a given cost makes stays below 2^64 (R24). -/
abbrev Fits (cost : Nat) (s : State) : Prop := s.cyc.toNat + chargeOf cost s < 2 ^ 64

/-- `CYC` and the start-up flag belong together (R25, R101): the count is even, since every addition is 0 or 2; and while the
overhead is still due no step has been made since the reset, so the count is 0 and `pc` is at the entry point. -/
abbrev CountersWf (pc : Addr) (cyc : CycleCount) (startupPending : Bool) : Prop :=
  cyc.toNat % 2 = 0 ∧ (startupPending = true → cyc = 0#64 ∧ pc = Config.entryPoint)

/-- What every snapshot in a slot meets. -/
abbrev Snapshot.wf (x : Snapshot) : Prop := x.ram.wf ∧ CountersWf x.pc x.cyc x.startupPending

/-- The invariant of the machine: RAM and the slots in canonical form, no image before a load (R27), the counters as R25 and
R101 leave them, in the state and in every snapshot. -/
abbrev MachineInv (s : State) : Prop :=
  s.ram.wf ∧ s.slots.wf ∧ (s.loaded = false → s.rom = []) ∧ CountersWf s.pc s.cyc s.startupPending ∧
    ∀ e ∈ s.slots, e.2.wf

/-- A `run_frame` in progress is one that R152 can reach: within the budget, and a halt is the step last performed. -/
abbrev FrameRun.wf (q : Session.Params) (r : FrameRun) : Prop :=
  r.taken ≤ q.stepsPerFrame ∧ (r.batch = .completed ∨ (r.batch = .haltedAt r.taken ∧ 0 < r.taken))

/-- The invariant of a session between two moves: `MachineInv`; no step's result is left over (R32, R184); only a loaded session has a
`run_frame` in progress (R152). -/
abbrev SessionInv (q : Session.Params) (s : State) : Prop :=
  MachineInv s ∧ s.stepResult = none ∧ (s.loaded = false → s.frameRun = none) ∧ ∀ r ∈ s.frameRun, r.wf q

/-- No `run_frame` is in progress and no step's result is waiting: where a command finds the machine (R160). -/
abbrev Idle (s : State) : Prop := s.frameRun = none ∧ s.stepResult = none

/-- The processor and `frame_count` of a snapshot are as at creation (R34, R200; the spec's D8, log entry 8). -/
abbrev Snapshot.asCreated (x : Snapshot) : Prop :=
  x.pc = 0x8000#16 ∧ x.a = 0x00#8 ∧ x.sp = 0x0000#16 ∧ x.p = 0x00#8 ∧ x.cyc = 0#64 ∧ x.startupPending = true ∧ x.frameCount = 0

/-- No load has succeeded yet (R202): nothing is loaded or in progress, and the processor is as created, in the state and in every
snapshot. RAM and the latch are free: the host may have written them. -/
abbrev Unloaded (s : State) : Prop :=
  Idle s ∧ s.loaded = false ∧ s.snapshot.asCreated ∧ ∀ e ∈ s.slots, e.2.asCreated

/-- `n` steps, each step's result taken as it is returned (R152). -/
def stepN : Nat → State → Result
  | 0, s => .next s
  | n + 1, s => andThen (step s) fun s' => stepN n (s'.setStepResult none)

/-- The step at `s` answers `Halted` (R120, R181): the byte at `pc` is 0x00. -/
abbrev AtHalt (s : State) : Prop := s.readByte s.pc = 0x00#8

end Sys2Proof.Machine
end

