-- ==== Sys2Proof/Certificates/Slice0/Obligations.lean ====
section
/-! DEFINITION. The statements for the provers. Numbers stand as the spec writes them. -/

open Sys2Proof Sys2Proof.Machine Sys2Proof.Machine.Session

/-! ### Encoding (spec/30_encoding.md) -/

/-- Words written out from R81, R82, R84 decode to the instructions they stand for. -/
def Obligations.SampleWordsDecode : Prop :=
  decode [0b10101001, 0b01000010] = .ok (.ldaImm 0x42, []) ∧
  decode [0b11101010] = .ok (.nop, []) ∧
  decode [0b00000000] = .ok (.brk, []) ∧
  decode [0b00000001] = .ok (.und01, []) ∧
  decode [0b01001100, 0b00000000] = .ok (.und4C, [0b00000000]) ∧
  decode [0b11111111] = .ok (.undFF, [])

/-- R80 to R82, R84: decoding an encoded instruction gives it back and leaves the bytes after it. -/
def Obligations.DecodeEncode : Prop :=
  ∀ (i : Instr) (rest : List Byte), i.wellFormed = true → decode (encode i ++ rest) = .ok (i, rest)

/-- R80 to R82, R84: the decoder drops no bit: what it reads, encoded again, is the bytes it was given. -/
def Obligations.EncodeDecode : Prop :=
  ∀ (bytes rest : List Byte) (i : Instr), decode bytes = .ok (i, rest) → encode i ++ rest = bytes

/-- R85: the rows are distinct: opcode byte and operand byte name one instruction. -/
def Obligations.RowsAreDistinct : Prop :=
  ∀ i j : Instr, i.opcode = j.opcode → i.operandBytes = j.operandBytes → i = j

/-- R86: no encoding is illegal. Every opcode byte decodes, whatever follows, and its instruction runs from every state whose
`CYC` has room; an unassigned opcode takes one byte and does nothing but advance `pc` and add `COST_MIN` (and the start-up
charge if due). -/
def Obligations.EveryByteExecutes : Prop :=
  ∀ (op operand : Byte) (rest : List Byte), ∃ (i : Instr) (rest' : List Byte),
    decode (op :: operand :: rest) = .ok (i, rest') ∧ i.opcode = op ∧ i.wellFormed = true ∧
    (∀ s : State, s.cyc.toNat + 4 < 2 ^ 64 → ∃ t, exec i s = .next t) ∧
    (op = 0xA9#8 → i = .ldaImm operand) ∧
    (op ≠ 0x00#8 → op ≠ 0xA9#8 → op ≠ 0xEA#8 → rest' = operand :: rest ∧
      ∀ s : State, Fits Config.costMin s → exec i s = .next
        { s with pc := s.pc + 1#16, cyc := s.cyc + BitVec.ofNat 64 (chargeOf Config.costMin s),
                 startupPending := false, stepResult := some .continued })

/-- R87: the length of an instruction is told by the opcode byte alone, 2 for 0xA9 and otherwise 1. -/
def Obligations.LengthFromOpcode : Prop :=
  ∀ i : Instr, (encode i).length = i.length ∧ i.length = if i.opcode = 0xA9#8 then 2 else 1

/-- R89, R90: the bytes of a well-formed instruction line (`LDA`, `NOP`, `BRK`, `UND`) decode to the instruction it names, a
`.byte` line is its bytes, `.org` and comments have none, and a line stands for as many bytes as its size says. The syntax is
the spec's D27, the reading of `.org` the model's (log entry 27). -/
def Obligations.AssemblerLines : Prop :=
  (∀ (n : Nat) (rest : List Byte), (AsmLine.lda n).wellFormed = true →
    decode ((AsmLine.lda n).bytes ++ rest) = .ok (.ldaImm (BitVec.ofNat 8 n), rest) ∧ (BitVec.ofNat 8 n).toNat = n) ∧
  (∀ (hh : Nat) (rest : List Byte), (AsmLine.und hh).wellFormed = true → ∃ i : Instr, i.unassigned = true ∧
    i.opcode.toNat = hh ∧ decode ((AsmLine.und hh).bytes ++ rest) = .ok (i, rest)) ∧
  (∀ rest : List Byte, decode (AsmLine.nop.bytes ++ rest) = .ok (.nop, rest) ∧
    decode (AsmLine.brk.bytes ++ rest) = .ok (.brk, rest)) ∧
  (∀ hhs : List Nat, (AsmLine.data hhs).wellFormed = true → (AsmLine.data hhs).bytes.map BitVec.toNat = hhs) ∧
  (∀ (address : Nat) (text : String), (AsmLine.org address).bytes = [] ∧ (AsmLine.comment text).bytes = []) ∧
  (∀ line : AsmLine, line.bytes.length = line.size)

/-! ### One step (spec/40_step_cycle.md) -/

/-- A step runs the decoded instruction: when the bytes from `pc` on decode to `i`, the step is `exec i`, with nothing around it.
-/
def Obligations.StepRunsDecodedInstruction : Prop :=
  ∀ (s : State) (i : Instr) (rest : List Byte),
    decode [s.readByte s.pc, s.readByte (s.pc + 1#16)] = .ok (i, rest) → i.wellFormed = true → step s = exec i s

/-- R102: dispatch is total and a function of the opcode byte alone (0xA9 takes its operand from the next address). -/
def Obligations.DispatchByOpcode : Prop :=
  (∀ s : State, step s = exec (fetch s) s ∧
    (s.readByte s.pc = 0xA9#8 → fetch s = .ldaImm (s.readByte (s.pc + 1#16))) ∧
    (s.readByte s.pc = 0xEA#8 → fetch s = .nop) ∧
    (s.readByte s.pc = 0x00#8 → fetch s = .brk) ∧
    (s.readByte s.pc ≠ 0xA9#8 → s.readByte s.pc ≠ 0xEA#8 → s.readByte s.pc ≠ 0x00#8 →
      (fetch s).unassigned = true ∧ (fetch s).opcode = s.readByte s.pc)) ∧
  (∀ s t : State, s.readByte s.pc = t.readByte t.pc → s.readByte s.pc ≠ 0xA9#8 → fetch s = fetch t)

/-- R100 to R104: the step equals the spec's pseudocode, stages 1 to 6 in order with the operand fetched at stage 4. Rests on
the spec's D2, D4, D5, D21 (log entries 2, 4, 5, 21) and on log entry 38. -/
def Obligations.StepMatchesPseudocode : Prop :=
  ∀ s : State, step s = Pseudocode.step s

/-- R24, R182: a step answers a next state, but for the one that would take `CYC` to 2^64 or more, which is refused under that
name (the spec's D21, log entry 21). -/
def Obligations.StepStopsOnlyOnOverflow : Prop :=
  ∀ s : State,
    (s.cyc.toNat + chargeOf (Pseudocode.cost (s.readByte s.pc)) s < 2 ^ 64 ∧ ∃ t, step s = .next t ∧
      t.cyc.toNat = s.cyc.toNat + chargeOf (Pseudocode.cost (s.readByte s.pc)) s) ∨
    (2 ^ 64 ≤ s.cyc.toNat + chargeOf (Pseudocode.cost (s.readByte s.pc)) s ∧ step s = .refused .cycleCountOverflow)

/-- R101: the first step after a reset costs 2 more than the same step later, whatever its opcode, and differs in nothing else;
after it the overhead is no longer due (the spec's D2, log entry 2). -/
def Obligations.FirstStepOverhead : Prop :=
  ∀ (i : Instr) (s : State), s.startupPending = false → s.cyc.toNat + 4 < 2 ^ 64 →
    ∃ t u, exec i s = .next t ∧ exec i { s with startupPending := true } = .next u ∧
      u.cyc.toNat = t.cyc.toNat + 2 ∧ u = { t with cyc := u.cyc } ∧ t.startupPending = false

/-- R106: execution is strictly sequential: after a step `pc` is the address of its opcode plus the instruction's length, modulo
2^16 (the spec's D11, log entry 11). -/
def Obligations.StepIsSequential : Prop :=
  ∀ s t : State, step s = .next t →
    t.pc.toNat = (s.pc.toNat + (if s.readByte s.pc = 0xA9#8 then 2 else 1)) % 2 ^ 16

/-- R104, R107: at any address, 0xFFFF included, `LDA #imm` takes its operand from the next address modulo 2^16 through the
decoder, and the step completes. That the address wraps is the spec's D11, that none traps its D33 (log entries 11, 33). -/
def Obligations.LdaOperandFromNextAddress : Prop :=
  ∀ s : State, s.readByte s.pc = 0xA9#8 → Fits 2 s → ∃ t, step s = .next t ∧
    t.a = s.readByte (BitVec.ofNat 16 ((s.pc.toNat + 1) % 2 ^ 16)) ∧ t.pc = s.pc + 2#16 ∧ t.stepResult = some .continued

/-- R87, R120: a fetch from the unmapped region or from beyond the image is `BRK`: the step halts, one address on.
The halt's cost of 0 (the premise) and its `pc` are the spec's D5 (log entry 5). -/
def Obligations.UnbackedFetchHalts : Prop :=
  ∀ s : State, (0x2000 ≤ s.pc.toNat ∧ s.pc.toNat < 0x8000) ∨ 0x8000 + s.rom.length ≤ s.pc.toNat →
    Fits 0 s → ∃ t, step s = .next t ∧ t.stepResult = some .halted ∧ t.pc = s.pc + 1#16

/-! ### The instructions (spec/41_lda.md, 42_nop_and_unassigned.md, 43_brk_halt.md) -/

/-- R110: what `LDA #imm` does, for every operand and every rule `FLAGS_LDA` could be (the spec's D6, log entry 6). -/
def Obligations.LdaResult : Prop :=
  ∀ (v : Byte) (s : State), Fits 2 s → exec (.ldaImm v) s = .next
    { s with pc := s.pc + 2#16, a := v, p := Config.flagsLda s.p v,
             cyc := s.cyc + BitVec.ofNat 64 ((if s.startupPending then 2 else 0) + 2),
             startupPending := false, stepResult := some .continued }

/-- R115: what `NOP` does. -/
def Obligations.NopResult : Prop :=
  ∀ s : State, Fits 2 s → exec .nop s = .next
    { s with pc := s.pc + 1#16, cyc := s.cyc + BitVec.ofNat 64 ((if s.startupPending then 2 else 0) + 2),
             startupPending := false, stepResult := some .continued }

/-- R116: what each of the 253 unassigned opcodes (`und01` to `undFF`) does (`COST_MIN` is the spec's D4, log entry 4). -/
def Obligations.UnassignedResult : Prop :=
  ∀ (i : Instr) (s : State), i.opcode ≠ 0x00#8 → i.opcode ≠ 0xA9#8 → i.opcode ≠ 0xEA#8 → Fits 2 s → exec i s = .next
    { s with pc := s.pc + 1#16, cyc := s.cyc + BitVec.ofNat 64 ((if s.startupPending then 2 else 0) + 2),
             startupPending := false, stepResult := some .continued }

/-- R120, R181, R183: what `BRK` does: it reports `Halted`, leaves `pc` one past itself, adds no cost, saves and pushes nothing
(the spec's D5, log entry 5). -/
def Obligations.BrkResult : Prop :=
  ∀ s : State, Fits 0 s → exec .brk s = .next
    { s with pc := s.pc + 1#16, cyc := s.cyc + BitVec.ofNat 64 (if s.startupPending then 2 else 0),
             startupPending := false, stepResult := some .halted }

/-- R110: the frame of `LDA #imm`: beyond `A` and `P`, only what every step writes (`pc`, `CYC`, `startup_pending` and the
step's result); every byte of memory reads as before. -/
def Obligations.LdaFrame : Prop :=
  ∀ (v : Byte) (s t : State), exec (.ldaImm v) s = .next t →
    t.sp = s.sp ∧ t.ram = s.ram ∧ t.rom = s.rom ∧ t.btn = s.btn ∧ t.loaded = s.loaded ∧ t.frameCount = s.frameCount ∧
    t.slots = s.slots ∧ t.frameRun = s.frameRun ∧ ∀ address : Addr, t.readByte address = s.readByte address

/-- R115, R116, R120: the frame of `NOP`, of `BRK` and of every unassigned opcode: only what every step writes. -/
def Obligations.ImpliedFrame : Prop :=
  ∀ (i : Instr) (s t : State), i.opcode ≠ 0xA9#8 → exec i s = .next t →
    t.a = s.a ∧ t.p = s.p ∧ t.sp = s.sp ∧ t.ram = s.ram ∧ t.rom = s.rom ∧ t.btn = s.btn ∧ t.loaded = s.loaded ∧
    t.frameCount = s.frameCount ∧ t.slots = s.slots ∧ t.frameRun = s.frameRun ∧
    ∀ address : Addr, t.readByte address = s.readByte address

/-- R21, R22, R23, R144: `A`, `SP` and `BTN` influence no step, and `P` influences nothing but `P` (the spec's D17, log entry
17). -/
def Obligations.InertRegisters : Prop :=
  ∀ (s : State) (a p : Byte) (sp : Addr) (b : BitVec Config.latchWidth),
    step { s with a := a, p := p, sp := sp, btn := b } = andThen (step s) fun t => .next
      { t with a := if s.readByte s.pc = 0xA9#8 then t.a else a
               p := if s.readByte s.pc = 0xA9#8 then Config.flagsLda p t.a else p
               sp := sp, btn := b }

/-- R27: the part of an image beyond 32768 bytes influences nothing a step does (the spec's D28, log entry 28). -/
def Obligations.ImageTailIsInert : Prop :=
  ∀ (s : State) (rom : List Byte), rom.take 32768 = s.rom.take 32768 →
    step { s with rom := rom } = andThen (step s) fun t => .next { t with rom := rom }

/-! ### The address decoder (spec/20_memory.md) -/

/-- R51: the four regions cover every address; what a read returns and what a write does in each. -/
def Obligations.DecoderRegions : Prop :=
  ∀ (s : State) (address : Addr) (v : Byte), s.ram.wf →
    (address.toNat < 0x2000 → s.readByte address = s.ram.read address.toNat ∧
      (s.writeByte address v).readByte address = v ∧
      (s.writeByte address v) = { s with ram := (s.writeByte address v).ram } ∧
      ∀ k, k ≠ address.toNat → (s.writeByte address v).ram.read k = s.ram.read k) ∧
    (0x2000 ≤ address.toNat → address.toNat < 0x8000 → s.readByte address = 0x00#8 ∧ s.writeByte address v = s) ∧
    (0x8000 ≤ address.toNat → address.toNat < 0x8000 + min s.rom.length 32768 →
      s.rom[address.toNat - 0x8000]? = some (s.readByte address) ∧ s.writeByte address v = s) ∧
    (0x8000 + min s.rom.length 32768 ≤ address.toNat → s.readByte address = 0x00#8 ∧ s.writeByte address v = s) ∧
    (address.toNat < 0x2000 ∨ (0x2000 ≤ address.toNat ∧ address.toNat < 0x8000) ∨
      (0x8000 ≤ address.toNat ∧ address.toNat < 0x8000 + min s.rom.length 32768) ∨
      (0x8000 + min s.rom.length 32768 ≤ address.toNat ∧ address.toNat ≤ 0xFFFF))

/-- R67: the wraparound invariant for every integer multiple of the RAM size, and the bounds-safety invariant. -/
def Obligations.WraparoundAndBounds : Prop :=
  (∀ (s : State) (a v k : Int), s.ram.wf → 0 ≤ a → a < 0x2000 →
    (((s.writePort a v).readPort a).toNat : Int) = v % 256 ∧
    (((s.writePort (a + 131072 * k) v).readPort a).toNat : Int) = v % 256 ∧
    (((s.writePort a v).readPort (a + 131072 * k)).toNat : Int) = v % 256) ∧
  (∀ (s : State) (a : Int), 0x8000 + (s.rom.length : Int) ≤ a → a ≤ 0xFFFF → s.readPort a = 0x00#8)

/-- R158, R160, R161: between frames the debug port reads and writes through the address decoder, and a status read answers
`frame_count`, `CYC`, `pc`, `A` and `loaded`. R58: a read changes nothing, a write may be repeated, and a write outside RAM has no
effect. The reduction of addresses and values and the port itself are the spec's D1, D25, D26 (log entries 1, 25, 26). -/
def Obligations.HostReadsAndWrites : Prop :=
  (∀ (q : Params) (s : State) (address value : Int),
    perform q (.debugRead address) s = .next (s, .byte (s.readPort address)) ∧
    perform q (.debugWrite address value) s = .next (s.writePort address value, .done) ∧
    perform q .readStatus s = .next (s, .status
      { frameCount := s.frameCount, cyc := s.cyc, pc := s.pc, a := s.a, loaded := s.loaded }) ∧
    (0x2000 ≤ address % 65536 → s.writePort address value = s)) ∧
  (∀ (s : State) (address value : Int), s.ram.wf →
    (s.writePort address value).writePort address value = s.writePort address value)

/-- R53: a write touches one byte: every other address reads as before. -/
def Obligations.WriteFrame : Prop :=
  ∀ (s : State) (address other : Addr) (v : Byte), other ≠ address →
    (s.writeByte address v).readByte other = s.readByte other

/-- R26: RAM from index 0x2000 on can be neither written nor read through a port. -/
def Obligations.UpperRamIsUnreachable : Prop :=
  (∀ (s : State) (address value : Int) (k : Nat), 0x2000 ≤ k → (s.writePort address value).ram.read k = s.ram.read k) ∧
  (∀ (s : State) (m : Memory) (address : Int), (∀ k, k < 0x2000 → m.read k = s.ram.read k) →
    ({ s with ram := m } : State).readPort address = s.readPort address)

/-- The model's own canonical form (log entry 41): RAMs that read the same at every index are the same list. -/
def Obligations.CanonicalMemory : Prop :=
  ∀ m n : Memory, m.wf → n.wf → (∀ k, m.read k = n.read k) → m = n

/-- R65: instruction fetch is coherent with data at once: bytes written to RAM at `pc` are the next instruction
(the spec's D34, log entry 44). -/
def Obligations.WrittenCodeRuns : Prop :=
  ∀ (s : State) (op operand : Byte), s.ram.wf → s.pc.toNat + 1 < 0x2000 →
    step ((s.writeByte s.pc op).writeByte (s.pc + 1#16) operand) =
      exec (decodeInstr op operand) ((s.writeByte s.pc op).writeByte (s.pc + 1#16) operand)

/-- The model's own (log entry 39): an instruction placed for the next step is the one the next step runs, whatever `pc` was. -/
def Obligations.PlacedInstructionRunsNext : Prop :=
  ∀ (s : State) (i : Instr), s.ram.wf →
    step (s.withFetchWord (8 * i.length) (i.opcode.toNat + 256 * (i.operandBytes.headD 0x00#8).toNat)) =
      exec i (s.withFetchWord (8 * i.length) (i.opcode.toNat + 256 * (i.operandBytes.headD 0x00#8).toNat))

/-! ### The frame generator (spec/45_frame_generator.md) -/

/-- R131, R133: the pixel at column `x`, row `y` of a frame is `PATTERN(x, y, n)`, for every `PATTERN` (the byte layout is the
spec's D15, log entry 15). -/
def Obligations.FramePixels : Prop :=
  ∀ (pattern : Pattern) (n : Nat) (x : Fin 256) (y : Fin 224),
    (renderFrame pattern n).size = 172032 ∧
    (renderFrame pattern n)[(y.val * 256 + x.val) * 3]? = some (pattern x y n).c0 ∧
    (renderFrame pattern n)[(y.val * 256 + x.val) * 3 + 1]? = some (pattern x y n).c1 ∧
    (renderFrame pattern n)[(y.val * 256 + x.val) * 3 + 2]? = some (pattern x y n).c2

/-- R132: purity: frames made from the same frame index are identical, whatever the two machines' states and whatever was
placed in memory or the latch. -/
def Obligations.FramesArePure : Prop :=
  ∀ (q : Params) (s t s' t' : State) (f f' : Frame) (b b' : Batch), s.frameCount = s'.frameCount →
    runFrame q s = .next (t, .frame f b) → runFrame q s' = .next (t', .frame f' b') → f = f'

/-- R135: the frames of a session are `render_frame(0)`, `render_frame(1)`, … after a reset or a load, whatever the image holds
and whether or not it halts (the spec's D13, log entry 13). -/
def Obligations.FrameSequence : Prop :=
  ∀ (q : Params) (c : Command) (n : Nat) (s t : State) (rs : List Response),
    (c = .reset ∧ s.loaded = true) ∨ (∃ image, c = .load (some image)) →
    run q (c :: List.replicate n .runFrame) s = some (.next (t, rs)) →
    rs.filterMap Response.frame? = (List.range n).map (renderFrame q.pattern) ∧ t.frameCount = n

/-! ### The input latch (spec/46_input_latch.md) -/

/-- R141: a write is a total overwrite, not a merge: `BTN` takes the bitmask modulo 2^`NB`, whatever it held, and `NB` is at least
10 (the spec's D16, log entry 16). -/
def Obligations.LatchOverwrite : Prop :=
  10 ≤ Config.latchWidth ∧ ∀ (s : State) (bitmask : Nat),
    s.setLatch bitmask = { s with btn := (s.setLatch bitmask).btn } ∧
    (s.setLatch bitmask).btn.toNat = bitmask % 2 ^ Config.latchWidth ∧
    (bitmask < 1024 → (s.setLatch bitmask).btn.toNat = bitmask) ∧
    ∀ i, (s.setLatch bitmask).btn.getLsbD i = (decide (i < Config.latchWidth) && bitmask.testBit i)

/-- R142: a read of the latch returns `BTN`, changes nothing, and gives the same again while no write intervenes. -/
def Obligations.LatchRead : Prop :=
  (∀ (q : Params) (s : State), perform q .readLatch s = .next (s, .latch s.btn) ∧
    move q .sampleLatch s = some (.next (s, .latch s.btn))) ∧
  (∀ (q : Params) (ms : List Move) (s t : State) (rs : List Response), (∀ m ∈ ms, m.isInput = false) →
    moves q ms s = some (.next (t, rs)) → ∀ bits, .latch bits ∈ rs → bits = s.btn)

/-- R143: no queue: after two writes with no read between them, every later read returns the second. -/
def Obligations.LatchHasNoQueue : Prop :=
  ∀ (q : Params) (a b : Nat) (between after : List Command) (s t : State) (rs : List Response),
    (∀ c ∈ between, c ≠ .readLatch ∧ ∀ m, c ≠ .setInput m) → (∀ c ∈ after, ∀ m, c ≠ .setInput m) →
    run q (.setInput a :: between ++ .setInput b :: after) s = some (.next (t, rs)) →
    ∀ bits, .latch bits ∈ rs → bits.toNat = b % 2 ^ Config.latchWidth

/-- R146: `reset`, `load`, `save_state`, `load_state` neither read nor write `BTN`, nor does `run_frame`.
That no step reads it is the spec's D17, what `reset` and `load` keep its D9 and D10 (log entries 17, 9, 10). -/
def Obligations.LatchOutsideLifeCycles : Prop :=
  ∀ (q : Params) (c : Command) (s : State) (b : BitVec Config.latchWidth),
    (∃ image, c = .load image) ∨ c = .reset ∨ (∃ k, c = .saveState k) ∨ (∃ k, c = .loadState k) ∨ c = .runFrame →
    perform q c { s with btn := b } = andThen (perform q c s) fun r => .next ({ r.1 with btn := b }, r.2)

/-- R144, R61: `set_input` moves landing anywhere among the steps of frames change no register, no memory and no frame: the same
moves without them reach the same state but for `BTN`, with the same frames (the spec's D17, D19; log entries 17, 19). -/
def Obligations.InputsNeverInterfere : Prop :=
  ∀ (q : Params) (ms : List Move) (s t : State) (rs : List Response), moves q ms s = some (.next (t, rs)) →
    ∃ t' rs', moves q (ms.filter fun m => !m.isInput) s = some (.next (t', rs')) ∧
      { t' with btn := t.btn } = t ∧ rs'.filterMap Response.frame? = rs.filterMap Response.frame?

/-! ### The session (spec/47_session_operations.md, 60_exceptions.md, 70_reset_and_hazards.md) -/

/-- R54: a load replaces the image wholesale: byte `i` of the new one is at 0x8000 + i and no byte of the old one survives; a
load that carries no bytes changes nothing; no other command touches the image. That every length is accepted is the spec's
D28, what a failed load does its D29 (log entries 28, 29). -/
def Obligations.LoadReplacesImage : Prop :=
  (∀ (q : Params) (s : State) (image : List Byte), ∃ t, perform q (.load (some image)) s = .next (t, .loaded) ∧
    t.rom = image ∧ ∀ k : Nat, k < 32768 → t.readByte (BitVec.ofNat 16 (0x8000 + k)) = image.getD k 0x00#8) ∧
  (∀ (q : Params) (s : State), perform q (.load none) s = .next (s, .ioFailure)) ∧
  (∀ (q : Params) (c : Command) (s t : State) (r : Response), (∀ image, c ≠ .load image) →
    perform q c s = .next (t, r) → t.rom = s.rom)

/-- R150: a successful load sets `loaded`, and is otherwise a reset: RAM, `A`, `SP`, `P`, `BTN` and the slots are kept (the
spec's D10, log entry 10). -/
def Obligations.LoadResult : Prop :=
  ∀ (q : Params) (s : State) (image : List Byte), perform q (.load (some image)) s = .next
    ({ s with rom := image, loaded := true, pc := 0x8000#16, cyc := 0#64, startupPending := true, frameCount := 0 }, .loaded)

/-- R151, R201: what `reset` writes, and that it writes nothing else (the spec's D9, log entry 9). -/
def Obligations.ResetResult : Prop :=
  ∀ (q : Params) (s : State), perform q .reset s = .next
    ({ s with pc := 0x8000#16, cyc := 0#64, startupPending := true, frameCount := 0 }, .done)

/-- R209: the reset law: a reset followed by a `run_frame` gives the very frame a `run_frame` gives after an initial load, and
memory reads after the reset as before it. That the image is kept, so that the window reads as before, is the spec's D9 (log
entry 9). -/
def Obligations.ResetLaw : Prop :=
  ∀ (q : Params) (s s' t t' u u' : State) (image : List Byte) (f f' : Frame) (b b' : Batch), s.loaded = true →
    perform q .reset s = .next (u, .done) → runFrame q u = .next (t, .frame f b) →
    perform q (.load (some image)) s' = .next (u', .loaded) → runFrame q u' = .next (t', .frame f' b') →
    f = f' ∧ u.ram = s.ram ∧ ∀ address : Addr, u.readByte address = s.readByte address

/-- R152, R153, R181: `run_frame` is steps up to the first that halts, at most the budget, then one frame and its count; a step
that halts is complete, and no state remembers it. -/
def Obligations.FrameIsStepsUntilHalt : Prop :=
  ∀ (q : Params) (s t : State) (f : Frame) (b : Batch), Idle s → runFrame q s = .next (t, .frame f b) →
    f = renderFrame q.pattern s.frameCount ∧ Idle t ∧
    ∃ n u, stepN n s = .next u ∧ t = { u with frameCount := s.frameCount + 1 } ∧
      ((b = .completed ∧ n = q.stepsPerFrame ∧ ∀ j v, j < n → stepN j s = .next v → v.readByte v.pc ≠ 0x00#8) ∨
       (b = .haltedAt n ∧ 1 ≤ n ∧ n ≤ q.stepsPerFrame ∧ (∃ v, stepN (n - 1) s = .next v ∧ v.readByte v.pc = 0x00#8 ∧
          t.pc = v.pc + 1#16) ∧
        ∀ j v, j < n - 1 → stepN j s = .next v → v.readByte v.pc ≠ 0x00#8))

/-- R107, R35: no program changes RAM, the image, `SP`, `BTN`, `loaded` or the slots, however long its batch. -/
def Obligations.FrameKeepsMemory : Prop :=
  ∀ (q : Params) (s t : State) (r : Response), runFrame q s = .next (t, r) →
    t.ram = s.ram ∧ t.rom = s.rom ∧ t.sp = s.sp ∧ t.btn = s.btn ∧ t.loaded = s.loaded ∧ t.slots = s.slots ∧
    ∀ address : Addr, t.readByte address = s.readByte address

/-- R24, R210: within a frame `CYC` never falls, and rises by at most 2 a step and 2 for the start. -/
def Obligations.FrameCycles : Prop :=
  ∀ (q : Params) (s t : State) (r : Response), runFrame q s = .next (t, r) →
    s.cyc.toNat ≤ t.cyc.toNat ∧ t.cyc.toNat ≤ s.cyc.toNat + 2 + 2 * q.stepsPerFrame

/-- R182: whatever the image and the commands, nothing faults, sticks or is refused but for `CYC`'s overflow; and a `run_frame`
on a loaded session whose `CYC` has room returns a frame, after at most `STEPS_PER_FRAME` steps. -/
def Obligations.SessionsNeverFail : Prop :=
  (∀ (q : Params) (s : State), s.loaded = true → s.cyc.toNat + 2 + 2 * q.stepsPerFrame < 2 ^ 64 →
    ∃ t f b, runFrame q s = .next (t, .frame f b) ∧ (b = .completed ∨ ∃ k, b = .haltedAt k ∧ k ≤ q.stepsPerFrame)) ∧
  (∀ (q : Params) (cs : List Command) (s : State), s.frameRun = none →
    (∃ t rs, run q cs s = some (.next (t, rs))) ∨ run q cs s = some (.refused .cycleCountOverflow))

/-- R202: until a load succeeds no instruction runs: from creation, commands without one leave the processor as created and
give no frame (the creation values are the spec's D8, log entry 8). -/
def Obligations.NothingRunsBeforeLoad : Prop :=
  ∀ (q : Params) (cs : List Command) (t : State) (rs : List Response), (∀ c ∈ cs, ∀ image, c ≠ .load (some image)) →
    run q cs State.reset = some (.next (t, rs)) →
    t.loaded = false ∧ t.pc = 0x8000#16 ∧ t.a = 0#8 ∧ t.sp = 0#16 ∧ t.p = 0#8 ∧ t.cyc = 0#64 ∧ t.startupPending = true ∧
    t.frameCount = 0 ∧ rs.filterMap Response.frame? = [] ∧ perform q .runFrame t = .next (t, .noFrame)

/-- R154, R160: `set_input` is `set_state` and nothing else, loaded or not, and the one command with a move during a `run_frame`
(that no other has one is the spec's treatment U7, log entry 35). -/
def Obligations.SetInputResult : Prop :=
  (∀ (q : Params) (s : State) (bitmask : Nat), perform q (.setInput bitmask) s = .next (s.setLatch bitmask, .done) ∧
    s.setLatch bitmask = { s with btn := (s.setLatch bitmask).btn }) ∧
  (∀ (s : State) (c : Command), s.frameRun ≠ none → (hasMove c s = true ↔ ∃ m, c = .setInput m))

/-- R60, R160: while a `run_frame` is in progress the host has no move but `set_input`; while none is, the stepper has none. -/
def Obligations.HostIsSerialised : Prop :=
  (∀ (q : Params) (c : Command) (s : State) (r : FrameRun), s.frameRun = some r → (∀ m, c ≠ .setInput m) →
    move q (.host c) s = none ∧ issue q c s = none) ∧
  (∀ (q : Params) (s : State), s.frameRun = none → move q .stepper s = none ∧ ∀ c, ∃ a, issue q c s = some a)

/-- R60, R61, R152: a `run_frame` made in moves, one to begin, one a step and one to end, reaches the state and the frame of the
atomic `run_frame`. -/
def Obligations.MovesMakeTheFrame : Prop :=
  ∀ (q : Params) (s t : State) (f : Frame) (b : Batch), Idle s → runFrame q s = .next (t, .frame f b) →
    ∃ n rs, n ≤ q.stepsPerFrame + 1 ∧
      moves q (.host .runFrame :: List.replicate n .stepper) s = some (.next (t, rs)) ∧ rs.getLast? = some (.frame f b)

/-- R155: `save_state` puts the tuple under its key, replaces what was there, leaves every other key and everything else. -/
def Obligations.SaveStateResult : Prop :=
  ∀ (q : Params) (s : State) (slot : Int), s.slots.wf → ∃ m : Slots,
    perform q (.saveState slot) s = .next ({ s with slots := m }, .done) ∧ m.wf ∧
    m.find slot = some { pc := s.pc, a := s.a, sp := s.sp, p := s.p, cyc := s.cyc, startupPending := s.startupPending,
                         ram := s.ram, frameCount := s.frameCount } ∧
    ∀ k, k ≠ slot → m.find k = s.slots.find k

/-- R157: a load of a slot never saved changes nothing and says so. -/
def Obligations.UnknownSlot : Prop :=
  ∀ (q : Params) (s : State) (slot : Int), s.slots.find slot = none →
    perform q (.loadState slot) s = .next (s, .noSuchSlot)

/-- R156: the round trip: after a save, whatever commands follow that do not save to the same key, a load restores the saved
tuple and nothing else, and the next frame is the one that would have followed the save (the spec's D20, D30; log entries 20,
30). -/
def Obligations.SaveLoadRoundTrip : Prop :=
  ∀ (q : Params) (slot : Int) (cs : List Command) (s t : State) (rs : List Response), (∀ c ∈ cs, c ≠ .saveState slot) →
    run q (.saveState slot :: cs) s = some (.next (t, rs)) →
    ∃ u, perform q (.loadState slot) t = .next (u, .restored) ∧
      u = { t with pc := s.pc, a := s.a, sp := s.sp, p := s.p, cyc := s.cyc, startupPending := s.startupPending,
                   ram := s.ram, frameCount := s.frameCount } ∧
      ∀ v f b, runFrame q u = .next (v, .frame f b) → f = renderFrame q.pattern s.frameCount

/-! ### Creation and invariants -/

/-- R200, R34: the machine at creation. RAM, `rom`, `loaded`, `frame_count` and the slots are the source's; the registers' and
the latch's values are the spec's D8 (log entry 8), the last two fields the model's (log entries 36, 37). -/
def Obligations.CreationState : Prop :=
  (∀ k : Nat, State.reset.ram.read k = 0x00#8) ∧ State.reset.rom = [] ∧ State.reset.loaded = false ∧
  State.reset.frameCount = 0 ∧ (∀ k : Int, State.reset.slots.find k = none) ∧
  State.reset.pc = 0x8000#16 ∧ State.reset.a = 0#8 ∧ State.reset.sp = 0#16 ∧ State.reset.p = 0#8 ∧ State.reset.cyc = 0#64 ∧
  State.reset.startupPending = true ∧ State.reset.btn = 0#Config.latchWidth ∧ State.reset.stepResult = none ∧ State.reset.frameRun = none

/-- The invariants hold at creation. They rest on the creation values of `pc` and `CYC` and on the start-up flag, the spec's D8
and D2 (log entries 8, 2), and on the model's own fields and lists (log entries 36, 37, 41). -/
def Obligations.CreationInvariant : Prop :=
  ∀ q : Params, SessionInv q State.reset ∧ Unloaded State.reset

/-- Every step keeps the invariant: canonical RAM and slots, no image before a load, the counters and the start-up flag in step
with each other, in the state and in every snapshot. -/
def Obligations.StepKeepsInvariant : Prop :=
  ∀ s t : State, MachineInv s → step s = .next t → MachineInv t

/-- Every move of host or stepper keeps the session's invariant. It rests on the spec's D2, D4, D5 (log entries 2, 4, 5) and on
the model's own fields and lists (log entries 36, 37, 41). -/
def Obligations.MovesKeepInvariant : Prop :=
  ∀ (q : Params) (m : Move) (s t : State) (r : Response), SessionInv q s → move q m s = some (.next (t, r)) → SessionInv q t

/-- Every command keeps the session's invariant, and no command leaves a `run_frame` in progress. It rests on the spec's D2, D4,
D5 (log entries 2, 4, 5) and on the model's own fields and lists (log entries 36, 37, 41). -/
def Obligations.CommandsKeepInvariant : Prop :=
  ∀ (q : Params) (cs : List Command) (s t : State) (rs : List Response), SessionInv q s → s.frameRun = none →
    run q cs s = some (.next (t, rs)) → SessionInv q t ∧ t.frameRun = none

/-- R202: one command from any machine that no load has reached yet, other than a load that succeeds: it answers, gives no frame,
and the machine is still one that no load has reached, the processor and every snapshot as created (the spec's D8, D9, D29, D30,
log entries 8, 9, 29, 30, and the model's own fields, log entries 36, 37). -/
def Obligations.CommandsBeforeLoadKeepCreation : Prop :=
  ∀ (q : Params) (c : Command) (s : State), Unloaded s → (∀ image, c ≠ .load (some image)) →
    ∃ t r, perform q c s = .next (t, r) ∧ Unloaded t ∧ r.frame? = none
end

