-- ==== Sys2Proof/Laws/Memory.lean ====
section
/-! SUPPORT. The RAM array and the slots: read after write, other places, canonical form. -/

namespace Sys2Proof.Machine

theorem Memory.wf_nil : Memory.wf [] := by simp [Memory.wf]

theorem Memory.wf_tail {c : Host.Cell} {m : Memory} (h : Memory.wf (c :: m)) : Memory.wf m :=
  ⟨(List.pairwise_cons.mp h.1).2, fun d hd => h.2 d (List.mem_cons_of_mem c hd)⟩

/-- An index below every listed one holds the unlisted byte. -/
theorem Memory.read_of_lt {m : Memory} {k : Nat} (h : ∀ c ∈ m, k < c.1) : m.read k = Memory.unlisted := by
  induction m with
  | nil => rfl
  | cons c m ih =>
    have hc : k < c.1 := h c (by simp)
    simp only [Memory.read, if_neg (by omega : ¬ k = c.1)]
    exact ih fun d hd => h d (by simp [hd])

theorem Memory.read_write_same {m : Memory} (h : m.wf) (k : Nat) (v : Byte) : (m.write k v).read k = v := by
  induction m with
  | nil =>
    simp only [Memory.write]
    split
    · rename_i hv; simp [Memory.read, hv]
    · simp [Memory.read]
  | cons c m ih =>
    obtain ⟨j, w⟩ := c
    have hlow : ∀ c ∈ m, j < c.1 := (List.pairwise_cons.mp h.1).1
    simp only [Memory.write]
    split
    · rename_i hk
      split
      · rename_i hv
        rw [hv]
        refine Memory.read_of_lt fun c hc => ?_
        rcases List.mem_cons.mp hc with rfl | hc
        · exact hk
        · exact hk.trans (hlow c hc)
      · simp [Memory.read]
    · split
      · rename_i hk
        split
        · rename_i hv
          rw [hv]
          exact Memory.read_of_lt fun c hc => hk ▸ hlow c hc
        · simp [Memory.read]
      · rename_i hk
        simp only [Memory.read, if_neg hk]
        exact ih (Memory.wf_tail h)

theorem Memory.read_write_other (m : Memory) {k j : Nat} (hne : j ≠ k) (v : Byte) :
    (m.write k v).read j = m.read j := by
  induction m with
  | nil => by_cases hv : v = Memory.unlisted <;> simp [Memory.write, Memory.read, hv, hne]
  | cons c m ih =>
    obtain ⟨i, w⟩ := c
    simp only [Memory.write]
    split
    · split <;> simp [Memory.read, hne]
    · split
      · rename_i hk
        subst hk
        split <;> simp [Memory.read, hne]
      · simp only [Memory.read, ih]

theorem Memory.mem_write {m : Memory} {k : Nat} {v : Byte} {c : Host.Cell} (h : c ∈ m.write k v) :
    (c = (k, v) ∧ v ≠ Memory.unlisted) ∨ c ∈ m := by
  induction m with
  | nil =>
    simp only [Memory.write] at h
    split at h <;> simp_all
  | cons d m ih =>
    simp only [Memory.write] at h
    split at h
    · split at h <;> simp_all
    · split at h
      · split at h
        · exact .inr (by simp [h])
        · rcases List.mem_cons.mp h with h | h
          · exact .inl ⟨h, by assumption⟩
          · exact .inr (by simp [h])
      · rcases List.mem_cons.mp h with rfl | h
        · exact .inr (by simp)
        · rcases ih h with h | h
          · exact .inl h
          · exact .inr (by simp [h])

theorem Memory.write_wf {m : Memory} (h : m.wf) {k : Nat} (hk : k < Config.ramSize) (v : Byte) : (m.write k v).wf := by
  refine ⟨?_, fun c hc => ?_⟩
  · have hp := h.1
    clear h
    induction m with
    | nil => simp only [Memory.write]; split <;> simp
    | cons d m ih =>
      obtain ⟨hd, hm⟩ := List.pairwise_cons.mp hp
      simp only [Memory.write]
      split
      · rename_i hlt
        split
        · exact hp
        · refine List.pairwise_cons.mpr ⟨fun c hc => ?_, hp⟩
          rcases List.mem_cons.mp hc with rfl | hc
          · exact hlt
          · exact hlt.trans (hd c hc)
      · rename_i hge
        split
        · rename_i heq
          split
          · exact hm
          · exact List.pairwise_cons.mpr ⟨fun c hc => heq ▸ hd c hc, hm⟩
        · rename_i hne
          refine List.pairwise_cons.mpr ⟨fun c hc => ?_, ih hm⟩
          rcases Memory.mem_write hc with ⟨rfl, _⟩ | hc
          · show d.1 < k
            omega
          · exact hd c hc
  · rcases Memory.mem_write hc with ⟨rfl, hv⟩ | hc
    · exact ⟨hk, hv⟩
    · exact h.2 c hc

theorem Slots.find_put_same (m : Slots) (k : Int) (x : Snapshot) : (m.put k x).find k = some x := by
  induction m with
  | nil => simp [Slots.put, Slots.find]
  | cons e m ih =>
    simp only [Slots.put]
    split
    · simp [Slots.find]
    · split
      · simp [Slots.find]
      · rename_i hne
        simp only [Slots.find, if_neg hne, ih]

theorem Slots.find_put_other (m : Slots) {k j : Int} (hne : j ≠ k) (x : Snapshot) : (m.put k x).find j = m.find j := by
  induction m with
  | nil => simp [Slots.put, Slots.find, hne]
  | cons e m ih =>
    obtain ⟨i, y⟩ := e
    simp only [Slots.put]
    split
    · simp [Slots.find, hne]
    · split
      · rename_i hk
        subst hk
        simp [Slots.find, hne]
      · simp only [Slots.find, ih]

theorem Slots.mem_put {m : Slots} {k : Int} {x : Snapshot} {e : Int × Snapshot} (h : e ∈ m.put k x) :
    e = (k, x) ∨ e ∈ m := by
  induction m with
  | nil => exact .inl (by simpa [Slots.put] using h)
  | cons d m ih =>
    simp only [Slots.put] at h
    split at h
    · simpa using h
    · split at h
      · rcases List.mem_cons.mp h with rfl | h
        · exact .inl rfl
        · exact .inr (by simp [h])
      · rcases List.mem_cons.mp h with rfl | h
        · exact .inr (by simp)
        · rcases ih h with h | h
          · exact .inl h
          · exact .inr (by simp [h])

theorem Slots.put_wf {m : Slots} (h : m.wf) (k : Int) (x : Snapshot) : (m.put k x).wf := by
  induction m with
  | nil => simp [Slots.put, Slots.wf]
  | cons d m ih =>
    obtain ⟨hd, hm⟩ := List.pairwise_cons.mp h
    simp only [Slots.put]
    split
    · rename_i hlt
      refine List.pairwise_cons.mpr ⟨fun c hc => ?_, h⟩
      rcases List.mem_cons.mp hc with rfl | hc
      · exact hlt
      · exact hlt.trans (hd c hc)
    · rename_i hge
      split
      · rename_i heq
        exact List.pairwise_cons.mpr ⟨fun c hc => heq ▸ hd c hc, hm⟩
      · rename_i hne
        refine List.pairwise_cons.mpr ⟨fun c hc => ?_, ih hm⟩
        rcases Slots.mem_put hc with rfl | hc
        · show d.1 < k
          omega
        · exact hd c hc

/-- A snapshot that is found is listed. -/
theorem Slots.mem_of_find {m : Slots} {k : Int} {x : Snapshot} (h : m.find k = some x) : (k, x) ∈ m := by
  induction m with
  | nil => simp [Slots.find] at h
  | cons e m ih =>
    obtain ⟨j, y⟩ := e
    simp only [Slots.find] at h
    split at h
    · rename_i hk
      simp_all
    · exact List.mem_cons_of_mem _ (ih h)

end Sys2Proof.Machine
end

