-- ==== Sys2Proof/Laws/State.lean ====
section
/-! SUPPORT. What each field reads after each update: one lemma per field per update. -/

namespace Sys2Proof.Machine

@[simp] theorem State.setPc_pc (s : State) (v : Addr) : (s.setPc v).pc = v := rfl
@[simp] theorem State.setPc_a (s : State) (v : Addr) : (s.setPc v).a = s.a := rfl
@[simp] theorem State.setPc_sp (s : State) (v : Addr) : (s.setPc v).sp = s.sp := rfl
@[simp] theorem State.setPc_p (s : State) (v : Addr) : (s.setPc v).p = s.p := rfl
@[simp] theorem State.setPc_cyc (s : State) (v : Addr) : (s.setPc v).cyc = s.cyc := rfl
@[simp] theorem State.setPc_startupPending (s : State) (v : Addr) : (s.setPc v).startupPending = s.startupPending := rfl
@[simp] theorem State.setPc_ram (s : State) (v : Addr) : (s.setPc v).ram = s.ram := rfl
@[simp] theorem State.setPc_rom (s : State) (v : Addr) : (s.setPc v).rom = s.rom := rfl
@[simp] theorem State.setPc_btn (s : State) (v : Addr) : (s.setPc v).btn = s.btn := rfl
@[simp] theorem State.setPc_loaded (s : State) (v : Addr) : (s.setPc v).loaded = s.loaded := rfl
@[simp] theorem State.setPc_frameCount (s : State) (v : Addr) : (s.setPc v).frameCount = s.frameCount := rfl
@[simp] theorem State.setPc_slots (s : State) (v : Addr) : (s.setPc v).slots = s.slots := rfl
@[simp] theorem State.setPc_stepResult (s : State) (v : Addr) : (s.setPc v).stepResult = s.stepResult := rfl
@[simp] theorem State.setPc_frameRun (s : State) (v : Addr) : (s.setPc v).frameRun = s.frameRun := rfl

@[simp] theorem State.setA_pc (s : State) (v : Byte) : (s.setA v).pc = s.pc := rfl
@[simp] theorem State.setA_a (s : State) (v : Byte) : (s.setA v).a = v := rfl
@[simp] theorem State.setA_sp (s : State) (v : Byte) : (s.setA v).sp = s.sp := rfl
@[simp] theorem State.setA_p (s : State) (v : Byte) : (s.setA v).p = s.p := rfl
@[simp] theorem State.setA_cyc (s : State) (v : Byte) : (s.setA v).cyc = s.cyc := rfl
@[simp] theorem State.setA_startupPending (s : State) (v : Byte) : (s.setA v).startupPending = s.startupPending := rfl
@[simp] theorem State.setA_ram (s : State) (v : Byte) : (s.setA v).ram = s.ram := rfl
@[simp] theorem State.setA_rom (s : State) (v : Byte) : (s.setA v).rom = s.rom := rfl
@[simp] theorem State.setA_btn (s : State) (v : Byte) : (s.setA v).btn = s.btn := rfl
@[simp] theorem State.setA_loaded (s : State) (v : Byte) : (s.setA v).loaded = s.loaded := rfl
@[simp] theorem State.setA_frameCount (s : State) (v : Byte) : (s.setA v).frameCount = s.frameCount := rfl
@[simp] theorem State.setA_slots (s : State) (v : Byte) : (s.setA v).slots = s.slots := rfl
@[simp] theorem State.setA_stepResult (s : State) (v : Byte) : (s.setA v).stepResult = s.stepResult := rfl
@[simp] theorem State.setA_frameRun (s : State) (v : Byte) : (s.setA v).frameRun = s.frameRun := rfl

@[simp] theorem State.setSp_pc (s : State) (v : Addr) : (s.setSp v).pc = s.pc := rfl
@[simp] theorem State.setSp_a (s : State) (v : Addr) : (s.setSp v).a = s.a := rfl
@[simp] theorem State.setSp_sp (s : State) (v : Addr) : (s.setSp v).sp = v := rfl
@[simp] theorem State.setSp_p (s : State) (v : Addr) : (s.setSp v).p = s.p := rfl
@[simp] theorem State.setSp_cyc (s : State) (v : Addr) : (s.setSp v).cyc = s.cyc := rfl
@[simp] theorem State.setSp_startupPending (s : State) (v : Addr) : (s.setSp v).startupPending = s.startupPending := rfl
@[simp] theorem State.setSp_ram (s : State) (v : Addr) : (s.setSp v).ram = s.ram := rfl
@[simp] theorem State.setSp_rom (s : State) (v : Addr) : (s.setSp v).rom = s.rom := rfl
@[simp] theorem State.setSp_btn (s : State) (v : Addr) : (s.setSp v).btn = s.btn := rfl
@[simp] theorem State.setSp_loaded (s : State) (v : Addr) : (s.setSp v).loaded = s.loaded := rfl
@[simp] theorem State.setSp_frameCount (s : State) (v : Addr) : (s.setSp v).frameCount = s.frameCount := rfl
@[simp] theorem State.setSp_slots (s : State) (v : Addr) : (s.setSp v).slots = s.slots := rfl
@[simp] theorem State.setSp_stepResult (s : State) (v : Addr) : (s.setSp v).stepResult = s.stepResult := rfl
@[simp] theorem State.setSp_frameRun (s : State) (v : Addr) : (s.setSp v).frameRun = s.frameRun := rfl

@[simp] theorem State.setP_pc (s : State) (v : Byte) : (s.setP v).pc = s.pc := rfl
@[simp] theorem State.setP_a (s : State) (v : Byte) : (s.setP v).a = s.a := rfl
@[simp] theorem State.setP_sp (s : State) (v : Byte) : (s.setP v).sp = s.sp := rfl
@[simp] theorem State.setP_p (s : State) (v : Byte) : (s.setP v).p = v := rfl
@[simp] theorem State.setP_cyc (s : State) (v : Byte) : (s.setP v).cyc = s.cyc := rfl
@[simp] theorem State.setP_startupPending (s : State) (v : Byte) : (s.setP v).startupPending = s.startupPending := rfl
@[simp] theorem State.setP_ram (s : State) (v : Byte) : (s.setP v).ram = s.ram := rfl
@[simp] theorem State.setP_rom (s : State) (v : Byte) : (s.setP v).rom = s.rom := rfl
@[simp] theorem State.setP_btn (s : State) (v : Byte) : (s.setP v).btn = s.btn := rfl
@[simp] theorem State.setP_loaded (s : State) (v : Byte) : (s.setP v).loaded = s.loaded := rfl
@[simp] theorem State.setP_frameCount (s : State) (v : Byte) : (s.setP v).frameCount = s.frameCount := rfl
@[simp] theorem State.setP_slots (s : State) (v : Byte) : (s.setP v).slots = s.slots := rfl
@[simp] theorem State.setP_stepResult (s : State) (v : Byte) : (s.setP v).stepResult = s.stepResult := rfl
@[simp] theorem State.setP_frameRun (s : State) (v : Byte) : (s.setP v).frameRun = s.frameRun := rfl

@[simp] theorem State.setCyc_pc (s : State) (v : CycleCount) : (s.setCyc v).pc = s.pc := rfl
@[simp] theorem State.setCyc_a (s : State) (v : CycleCount) : (s.setCyc v).a = s.a := rfl
@[simp] theorem State.setCyc_sp (s : State) (v : CycleCount) : (s.setCyc v).sp = s.sp := rfl
@[simp] theorem State.setCyc_p (s : State) (v : CycleCount) : (s.setCyc v).p = s.p := rfl
@[simp] theorem State.setCyc_cyc (s : State) (v : CycleCount) : (s.setCyc v).cyc = v := rfl
@[simp] theorem State.setCyc_startupPending (s : State) (v : CycleCount) : (s.setCyc v).startupPending = s.startupPending := rfl
@[simp] theorem State.setCyc_ram (s : State) (v : CycleCount) : (s.setCyc v).ram = s.ram := rfl
@[simp] theorem State.setCyc_rom (s : State) (v : CycleCount) : (s.setCyc v).rom = s.rom := rfl
@[simp] theorem State.setCyc_btn (s : State) (v : CycleCount) : (s.setCyc v).btn = s.btn := rfl
@[simp] theorem State.setCyc_loaded (s : State) (v : CycleCount) : (s.setCyc v).loaded = s.loaded := rfl
@[simp] theorem State.setCyc_frameCount (s : State) (v : CycleCount) : (s.setCyc v).frameCount = s.frameCount := rfl
@[simp] theorem State.setCyc_slots (s : State) (v : CycleCount) : (s.setCyc v).slots = s.slots := rfl
@[simp] theorem State.setCyc_stepResult (s : State) (v : CycleCount) : (s.setCyc v).stepResult = s.stepResult := rfl
@[simp] theorem State.setCyc_frameRun (s : State) (v : CycleCount) : (s.setCyc v).frameRun = s.frameRun := rfl

@[simp] theorem State.setStartupPending_pc (s : State) (v : Bool) : (s.setStartupPending v).pc = s.pc := rfl
@[simp] theorem State.setStartupPending_a (s : State) (v : Bool) : (s.setStartupPending v).a = s.a := rfl
@[simp] theorem State.setStartupPending_sp (s : State) (v : Bool) : (s.setStartupPending v).sp = s.sp := rfl
@[simp] theorem State.setStartupPending_p (s : State) (v : Bool) : (s.setStartupPending v).p = s.p := rfl
@[simp] theorem State.setStartupPending_cyc (s : State) (v : Bool) : (s.setStartupPending v).cyc = s.cyc := rfl
@[simp] theorem State.setStartupPending_startupPending (s : State) (v : Bool) : (s.setStartupPending v).startupPending = v := rfl
@[simp] theorem State.setStartupPending_ram (s : State) (v : Bool) : (s.setStartupPending v).ram = s.ram := rfl
@[simp] theorem State.setStartupPending_rom (s : State) (v : Bool) : (s.setStartupPending v).rom = s.rom := rfl
@[simp] theorem State.setStartupPending_btn (s : State) (v : Bool) : (s.setStartupPending v).btn = s.btn := rfl
@[simp] theorem State.setStartupPending_loaded (s : State) (v : Bool) : (s.setStartupPending v).loaded = s.loaded := rfl
@[simp] theorem State.setStartupPending_frameCount (s : State) (v : Bool) : (s.setStartupPending v).frameCount = s.frameCount := rfl
@[simp] theorem State.setStartupPending_slots (s : State) (v : Bool) : (s.setStartupPending v).slots = s.slots := rfl
@[simp] theorem State.setStartupPending_stepResult (s : State) (v : Bool) : (s.setStartupPending v).stepResult = s.stepResult := rfl
@[simp] theorem State.setStartupPending_frameRun (s : State) (v : Bool) : (s.setStartupPending v).frameRun = s.frameRun := rfl

@[simp] theorem State.setRam_pc (s : State) (v : Memory) : (s.setRam v).pc = s.pc := rfl
@[simp] theorem State.setRam_a (s : State) (v : Memory) : (s.setRam v).a = s.a := rfl
@[simp] theorem State.setRam_sp (s : State) (v : Memory) : (s.setRam v).sp = s.sp := rfl
@[simp] theorem State.setRam_p (s : State) (v : Memory) : (s.setRam v).p = s.p := rfl
@[simp] theorem State.setRam_cyc (s : State) (v : Memory) : (s.setRam v).cyc = s.cyc := rfl
@[simp] theorem State.setRam_startupPending (s : State) (v : Memory) : (s.setRam v).startupPending = s.startupPending := rfl
@[simp] theorem State.setRam_ram (s : State) (v : Memory) : (s.setRam v).ram = v := rfl
@[simp] theorem State.setRam_rom (s : State) (v : Memory) : (s.setRam v).rom = s.rom := rfl
@[simp] theorem State.setRam_btn (s : State) (v : Memory) : (s.setRam v).btn = s.btn := rfl
@[simp] theorem State.setRam_loaded (s : State) (v : Memory) : (s.setRam v).loaded = s.loaded := rfl
@[simp] theorem State.setRam_frameCount (s : State) (v : Memory) : (s.setRam v).frameCount = s.frameCount := rfl
@[simp] theorem State.setRam_slots (s : State) (v : Memory) : (s.setRam v).slots = s.slots := rfl
@[simp] theorem State.setRam_stepResult (s : State) (v : Memory) : (s.setRam v).stepResult = s.stepResult := rfl
@[simp] theorem State.setRam_frameRun (s : State) (v : Memory) : (s.setRam v).frameRun = s.frameRun := rfl

@[simp] theorem State.setRom_pc (s : State) (v : List Byte) : (s.setRom v).pc = s.pc := rfl
@[simp] theorem State.setRom_a (s : State) (v : List Byte) : (s.setRom v).a = s.a := rfl
@[simp] theorem State.setRom_sp (s : State) (v : List Byte) : (s.setRom v).sp = s.sp := rfl
@[simp] theorem State.setRom_p (s : State) (v : List Byte) : (s.setRom v).p = s.p := rfl
@[simp] theorem State.setRom_cyc (s : State) (v : List Byte) : (s.setRom v).cyc = s.cyc := rfl
@[simp] theorem State.setRom_startupPending (s : State) (v : List Byte) : (s.setRom v).startupPending = s.startupPending := rfl
@[simp] theorem State.setRom_ram (s : State) (v : List Byte) : (s.setRom v).ram = s.ram := rfl
@[simp] theorem State.setRom_rom (s : State) (v : List Byte) : (s.setRom v).rom = v := rfl
@[simp] theorem State.setRom_btn (s : State) (v : List Byte) : (s.setRom v).btn = s.btn := rfl
@[simp] theorem State.setRom_loaded (s : State) (v : List Byte) : (s.setRom v).loaded = s.loaded := rfl
@[simp] theorem State.setRom_frameCount (s : State) (v : List Byte) : (s.setRom v).frameCount = s.frameCount := rfl
@[simp] theorem State.setRom_slots (s : State) (v : List Byte) : (s.setRom v).slots = s.slots := rfl
@[simp] theorem State.setRom_stepResult (s : State) (v : List Byte) : (s.setRom v).stepResult = s.stepResult := rfl
@[simp] theorem State.setRom_frameRun (s : State) (v : List Byte) : (s.setRom v).frameRun = s.frameRun := rfl

@[simp] theorem State.setBtn_pc (s : State) (v : BitVec Config.latchWidth) : (s.setBtn v).pc = s.pc := rfl
@[simp] theorem State.setBtn_a (s : State) (v : BitVec Config.latchWidth) : (s.setBtn v).a = s.a := rfl
@[simp] theorem State.setBtn_sp (s : State) (v : BitVec Config.latchWidth) : (s.setBtn v).sp = s.sp := rfl
@[simp] theorem State.setBtn_p (s : State) (v : BitVec Config.latchWidth) : (s.setBtn v).p = s.p := rfl
@[simp] theorem State.setBtn_cyc (s : State) (v : BitVec Config.latchWidth) : (s.setBtn v).cyc = s.cyc := rfl
@[simp] theorem State.setBtn_startupPending (s : State) (v : BitVec Config.latchWidth) : (s.setBtn v).startupPending = s.startupPending := rfl
@[simp] theorem State.setBtn_ram (s : State) (v : BitVec Config.latchWidth) : (s.setBtn v).ram = s.ram := rfl
@[simp] theorem State.setBtn_rom (s : State) (v : BitVec Config.latchWidth) : (s.setBtn v).rom = s.rom := rfl
@[simp] theorem State.setBtn_btn (s : State) (v : BitVec Config.latchWidth) : (s.setBtn v).btn = v := rfl
@[simp] theorem State.setBtn_loaded (s : State) (v : BitVec Config.latchWidth) : (s.setBtn v).loaded = s.loaded := rfl
@[simp] theorem State.setBtn_frameCount (s : State) (v : BitVec Config.latchWidth) : (s.setBtn v).frameCount = s.frameCount := rfl
@[simp] theorem State.setBtn_slots (s : State) (v : BitVec Config.latchWidth) : (s.setBtn v).slots = s.slots := rfl
@[simp] theorem State.setBtn_stepResult (s : State) (v : BitVec Config.latchWidth) : (s.setBtn v).stepResult = s.stepResult := rfl
@[simp] theorem State.setBtn_frameRun (s : State) (v : BitVec Config.latchWidth) : (s.setBtn v).frameRun = s.frameRun := rfl

@[simp] theorem State.setLoaded_pc (s : State) (v : Bool) : (s.setLoaded v).pc = s.pc := rfl
@[simp] theorem State.setLoaded_a (s : State) (v : Bool) : (s.setLoaded v).a = s.a := rfl
@[simp] theorem State.setLoaded_sp (s : State) (v : Bool) : (s.setLoaded v).sp = s.sp := rfl
@[simp] theorem State.setLoaded_p (s : State) (v : Bool) : (s.setLoaded v).p = s.p := rfl
@[simp] theorem State.setLoaded_cyc (s : State) (v : Bool) : (s.setLoaded v).cyc = s.cyc := rfl
@[simp] theorem State.setLoaded_startupPending (s : State) (v : Bool) : (s.setLoaded v).startupPending = s.startupPending := rfl
@[simp] theorem State.setLoaded_ram (s : State) (v : Bool) : (s.setLoaded v).ram = s.ram := rfl
@[simp] theorem State.setLoaded_rom (s : State) (v : Bool) : (s.setLoaded v).rom = s.rom := rfl
@[simp] theorem State.setLoaded_btn (s : State) (v : Bool) : (s.setLoaded v).btn = s.btn := rfl
@[simp] theorem State.setLoaded_loaded (s : State) (v : Bool) : (s.setLoaded v).loaded = v := rfl
@[simp] theorem State.setLoaded_frameCount (s : State) (v : Bool) : (s.setLoaded v).frameCount = s.frameCount := rfl
@[simp] theorem State.setLoaded_slots (s : State) (v : Bool) : (s.setLoaded v).slots = s.slots := rfl
@[simp] theorem State.setLoaded_stepResult (s : State) (v : Bool) : (s.setLoaded v).stepResult = s.stepResult := rfl
@[simp] theorem State.setLoaded_frameRun (s : State) (v : Bool) : (s.setLoaded v).frameRun = s.frameRun := rfl

@[simp] theorem State.setFrameCount_pc (s : State) (v : Nat) : (s.setFrameCount v).pc = s.pc := rfl
@[simp] theorem State.setFrameCount_a (s : State) (v : Nat) : (s.setFrameCount v).a = s.a := rfl
@[simp] theorem State.setFrameCount_sp (s : State) (v : Nat) : (s.setFrameCount v).sp = s.sp := rfl
@[simp] theorem State.setFrameCount_p (s : State) (v : Nat) : (s.setFrameCount v).p = s.p := rfl
@[simp] theorem State.setFrameCount_cyc (s : State) (v : Nat) : (s.setFrameCount v).cyc = s.cyc := rfl
@[simp] theorem State.setFrameCount_startupPending (s : State) (v : Nat) : (s.setFrameCount v).startupPending = s.startupPending := rfl
@[simp] theorem State.setFrameCount_ram (s : State) (v : Nat) : (s.setFrameCount v).ram = s.ram := rfl
@[simp] theorem State.setFrameCount_rom (s : State) (v : Nat) : (s.setFrameCount v).rom = s.rom := rfl
@[simp] theorem State.setFrameCount_btn (s : State) (v : Nat) : (s.setFrameCount v).btn = s.btn := rfl
@[simp] theorem State.setFrameCount_loaded (s : State) (v : Nat) : (s.setFrameCount v).loaded = s.loaded := rfl
@[simp] theorem State.setFrameCount_frameCount (s : State) (v : Nat) : (s.setFrameCount v).frameCount = v := rfl
@[simp] theorem State.setFrameCount_slots (s : State) (v : Nat) : (s.setFrameCount v).slots = s.slots := rfl
@[simp] theorem State.setFrameCount_stepResult (s : State) (v : Nat) : (s.setFrameCount v).stepResult = s.stepResult := rfl
@[simp] theorem State.setFrameCount_frameRun (s : State) (v : Nat) : (s.setFrameCount v).frameRun = s.frameRun := rfl

@[simp] theorem State.setSlots_pc (s : State) (v : Slots) : (s.setSlots v).pc = s.pc := rfl
@[simp] theorem State.setSlots_a (s : State) (v : Slots) : (s.setSlots v).a = s.a := rfl
@[simp] theorem State.setSlots_sp (s : State) (v : Slots) : (s.setSlots v).sp = s.sp := rfl
@[simp] theorem State.setSlots_p (s : State) (v : Slots) : (s.setSlots v).p = s.p := rfl
@[simp] theorem State.setSlots_cyc (s : State) (v : Slots) : (s.setSlots v).cyc = s.cyc := rfl
@[simp] theorem State.setSlots_startupPending (s : State) (v : Slots) : (s.setSlots v).startupPending = s.startupPending := rfl
@[simp] theorem State.setSlots_ram (s : State) (v : Slots) : (s.setSlots v).ram = s.ram := rfl
@[simp] theorem State.setSlots_rom (s : State) (v : Slots) : (s.setSlots v).rom = s.rom := rfl
@[simp] theorem State.setSlots_btn (s : State) (v : Slots) : (s.setSlots v).btn = s.btn := rfl
@[simp] theorem State.setSlots_loaded (s : State) (v : Slots) : (s.setSlots v).loaded = s.loaded := rfl
@[simp] theorem State.setSlots_frameCount (s : State) (v : Slots) : (s.setSlots v).frameCount = s.frameCount := rfl
@[simp] theorem State.setSlots_slots (s : State) (v : Slots) : (s.setSlots v).slots = v := rfl
@[simp] theorem State.setSlots_stepResult (s : State) (v : Slots) : (s.setSlots v).stepResult = s.stepResult := rfl
@[simp] theorem State.setSlots_frameRun (s : State) (v : Slots) : (s.setSlots v).frameRun = s.frameRun := rfl

@[simp] theorem State.setStepResult_pc (s : State) (v : Option StepOutcome) : (s.setStepResult v).pc = s.pc := rfl
@[simp] theorem State.setStepResult_a (s : State) (v : Option StepOutcome) : (s.setStepResult v).a = s.a := rfl
@[simp] theorem State.setStepResult_sp (s : State) (v : Option StepOutcome) : (s.setStepResult v).sp = s.sp := rfl
@[simp] theorem State.setStepResult_p (s : State) (v : Option StepOutcome) : (s.setStepResult v).p = s.p := rfl
@[simp] theorem State.setStepResult_cyc (s : State) (v : Option StepOutcome) : (s.setStepResult v).cyc = s.cyc := rfl
@[simp] theorem State.setStepResult_startupPending (s : State) (v : Option StepOutcome) : (s.setStepResult v).startupPending = s.startupPending := rfl
@[simp] theorem State.setStepResult_ram (s : State) (v : Option StepOutcome) : (s.setStepResult v).ram = s.ram := rfl
@[simp] theorem State.setStepResult_rom (s : State) (v : Option StepOutcome) : (s.setStepResult v).rom = s.rom := rfl
@[simp] theorem State.setStepResult_btn (s : State) (v : Option StepOutcome) : (s.setStepResult v).btn = s.btn := rfl
@[simp] theorem State.setStepResult_loaded (s : State) (v : Option StepOutcome) : (s.setStepResult v).loaded = s.loaded := rfl
@[simp] theorem State.setStepResult_frameCount (s : State) (v : Option StepOutcome) : (s.setStepResult v).frameCount = s.frameCount := rfl
@[simp] theorem State.setStepResult_slots (s : State) (v : Option StepOutcome) : (s.setStepResult v).slots = s.slots := rfl
@[simp] theorem State.setStepResult_stepResult (s : State) (v : Option StepOutcome) : (s.setStepResult v).stepResult = v := rfl
@[simp] theorem State.setStepResult_frameRun (s : State) (v : Option StepOutcome) : (s.setStepResult v).frameRun = s.frameRun := rfl

@[simp] theorem State.setFrameRun_pc (s : State) (v : Option FrameRun) : (s.setFrameRun v).pc = s.pc := rfl
@[simp] theorem State.setFrameRun_a (s : State) (v : Option FrameRun) : (s.setFrameRun v).a = s.a := rfl
@[simp] theorem State.setFrameRun_sp (s : State) (v : Option FrameRun) : (s.setFrameRun v).sp = s.sp := rfl
@[simp] theorem State.setFrameRun_p (s : State) (v : Option FrameRun) : (s.setFrameRun v).p = s.p := rfl
@[simp] theorem State.setFrameRun_cyc (s : State) (v : Option FrameRun) : (s.setFrameRun v).cyc = s.cyc := rfl
@[simp] theorem State.setFrameRun_startupPending (s : State) (v : Option FrameRun) : (s.setFrameRun v).startupPending = s.startupPending := rfl
@[simp] theorem State.setFrameRun_ram (s : State) (v : Option FrameRun) : (s.setFrameRun v).ram = s.ram := rfl
@[simp] theorem State.setFrameRun_rom (s : State) (v : Option FrameRun) : (s.setFrameRun v).rom = s.rom := rfl
@[simp] theorem State.setFrameRun_btn (s : State) (v : Option FrameRun) : (s.setFrameRun v).btn = s.btn := rfl
@[simp] theorem State.setFrameRun_loaded (s : State) (v : Option FrameRun) : (s.setFrameRun v).loaded = s.loaded := rfl
@[simp] theorem State.setFrameRun_frameCount (s : State) (v : Option FrameRun) : (s.setFrameRun v).frameCount = s.frameCount := rfl
@[simp] theorem State.setFrameRun_slots (s : State) (v : Option FrameRun) : (s.setFrameRun v).slots = s.slots := rfl
@[simp] theorem State.setFrameRun_stepResult (s : State) (v : Option FrameRun) : (s.setFrameRun v).stepResult = s.stepResult := rfl
@[simp] theorem State.setFrameRun_frameRun (s : State) (v : Option FrameRun) : (s.setFrameRun v).frameRun = v := rfl

end Sys2Proof.Machine
end

