-- ==== Sys2Proof/Laws/Ops.lean ====
section
/-! SUPPORT. One lemma per shared operation: everything it can do. -/

namespace Sys2Proof.Machine

@[simp] theorem andThen_next {α β : Type} (x : α) (f : α → Host.Outcome β Fault Refusal) :
    andThen (.next x) f = f x := rfl

@[simp] theorem andThen_refused {α β : Type} (r : Refusal) (f : α → Host.Outcome β Fault Refusal) :
    andThen (.refused r) f = .refused r := rfl

/-- Whatever follows answers a next state only after a next state. -/
theorem andThen_eq_next {α β : Type} {o : Host.Outcome α Fault Refusal} {f : α → Host.Outcome β Fault Refusal} {y : β} :
    andThen o f = .next y ↔ ∃ x, o = .next x ∧ f x = .next y := by
  cases o with
  | next x => simp [andThen]
  | fault r => cases r
  | refused r => simp [andThen]

/-- Two states that agree on every field are equal. -/
theorem State.ext_fields {s t : State} (hpc : s.pc = t.pc) (ha : s.a = t.a) (hsp : s.sp = t.sp) (hp : s.p = t.p)
    (hcyc : s.cyc = t.cyc) (hst : s.startupPending = t.startupPending) (hram : s.ram = t.ram) (hrom : s.rom = t.rom)
    (hbtn : s.btn = t.btn) (hl : s.loaded = t.loaded) (hf : s.frameCount = t.frameCount) (hsl : s.slots = t.slots)
    (hr : s.stepResult = t.stepResult) (hfr : s.frameRun = t.frameRun) : s = t := by
  cases s; cases t; simp_all

/-- What a step's additions to `CYC` come to: within 2^64 they are one addition, otherwise the step is refused. The effect must
leave `CYC` alone. -/
theorem instructionCycle_eq {cost : Nat} {effect : State → State} (s : State)
    (heffect : ∀ u c, effect (u.setCyc c) = (effect u).setCyc c) :
    instructionCycle cost effect s =
      if Fits cost s then
        .next ((effect (s.setStartupPending false).advancePc).setCyc (s.cyc + BitVec.ofNat 64 (chargeOf cost s)))
      else .refused .cycleCountOverflow := by
  have hcyc : ∀ u, (effect u).cyc = u.cyc := fun u => by
    have h := congrArg State.cyc (heffect u u.cyc)
    simpa [State.setCyc] using h
  unfold instructionCycle chargeStartup
  cases hs : s.startupPending
  · have hself : s.setStartupPending false = s := by cases s; simp_all [State.setStartupPending]
    simp only [Bool.false_eq_true, if_false, andThen_next, addCycles, hcyc, hself, State.advancePc, State.setPc_cyc, Fits,
      chargeOf, hs, Nat.zero_add]
  · simp only [if_true, addCycles, Fits, chargeOf, hs]
    have hadv : ∀ c, ((s.setCyc c).setStartupPending false).advancePc = ((s.setStartupPending false).advancePc).setCyc c :=
      fun c => rfl
    split
    · rename_i h1
      simp only [andThen_next, hadv, heffect, State.setCyc_cyc]
      have h2 : (s.cyc + BitVec.ofNat 64 Config.startupOverhead).toNat = s.cyc.toNat + Config.startupOverhead := by
        rw [BitVec.toNat_add, BitVec.toNat_ofNat]
        have : Config.startupOverhead % 2 ^ 64 = Config.startupOverhead := rfl
        rw [this]
        exact Nat.mod_eq_of_lt h1
      rw [h2, Nat.add_assoc]
      split
      · have : s.cyc + BitVec.ofNat 64 Config.startupOverhead + BitVec.ofNat 64 cost
            = s.cyc + BitVec.ofNat 64 (Config.startupOverhead + cost) := by
          rw [BitVec.add_assoc, ← BitVec.ofNat_add]
        rw [this]
        rfl
      · rfl
    · rename_i h1
      have : ¬ s.cyc.toNat + (Config.startupOverhead + cost) < 2 ^ 64 := by omega
      rw [if_neg this]
      rfl

/-- Reading a byte depends on RAM and the image alone (R52, R87). -/
theorem State.readByte_congr {s t : State} (hram : s.ram = t.ram) (hrom : s.rom = t.rom) (a : Addr) :
    s.readByte a = t.readByte a := by
  simp only [State.readByte, hram, hrom]

/-- A write changes nothing but RAM. -/
theorem State.writeByte_eq (s : State) (a : Addr) (v : Byte) :
    s.writeByte a v = s.setRam (if a.toNat < Config.ramBoundary then s.ram.write a.toNat v else s.ram) := by
  unfold State.writeByte
  split
  · rename_i h
    have : a.toNat % Config.ramSize = a.toNat := Nat.mod_eq_of_lt (by simp [Config.ramBoundary, Config.ramSize] at *; omega)
    rw [this]
  · rfl

/-- A read from RAM (R51). -/
theorem State.readByte_ram (s : State) {a : Addr} (h : a.toNat < Config.ramBoundary) : s.readByte a = s.ram.read a.toNat := by
  have : a.toNat % Config.ramSize = a.toNat := Nat.mod_eq_of_lt (by simp [Config.ramBoundary, Config.ramSize] at *; omega)
  simp [State.readByte, h, this]

/-- A read from the window (R51): the image byte, or 0x00 beyond the image. -/
theorem State.readByte_window (s : State) {a : Addr} (h : Config.romBase ≤ a.toNat) :
    s.readByte a = imageByte s.rom (a.toNat - Config.romBase) := by
  have h1 : ¬ a.toNat < Config.ramBoundary := by simp [Config.ramBoundary, Config.romBase] at *; omega
  simp only [State.readByte, if_neg h1, h, true_and]
  split
  · rfl
  · rename_i h2
    simp only [imageByte]
    rw [List.getD_eq_default _ _ (by omega)]

/-- A read from the unmapped region (R51). -/
theorem State.readByte_unmapped (s : State) {a : Addr} (h1 : ¬ a.toNat < Config.ramBoundary)
    (h2 : ¬ Config.romBase ≤ a.toNat) : s.readByte a = 0x00#8 := by
  simp [State.readByte, h1, h2]

/-- Every memory operation keeps RAM in canonical form. -/
theorem State.writeByte_wf {s : State} (h : s.ram.wf) (a : Addr) (v : Byte) : (s.writeByte a v).ram.wf := by
  rw [State.writeByte_eq]
  simp only [State.setRam_ram]
  split
  · rename_i ha
    exact Memory.write_wf h (by simp [Config.ramBoundary, Config.ramSize] at *; omega) v
  · exact h

/-- The image after a poke: the new byte at its index, every other byte as before. -/
theorem imageByte_pokeImage (rom : List Byte) (k : Nat) (v : Byte) (j : Nat) :
    imageByte (pokeImage rom k v) j = if j = k then v else imageByte rom j := by
  induction rom generalizing k j with
  | nil =>
    simp only [pokeImage, imageByte, List.getD_eq_getElem?_getD, List.getElem?_append, List.length_replicate,
      List.getElem?_replicate]
    split
    · rename_i h
      rw [if_neg (by omega)]
      simp
    · rename_i h
      split
      · rename_i e
        subst e
        simp
      · rw [List.getElem?_eq_none (by simp; omega)]
        simp
  | cons w rom ih =>
    cases k with
    | zero => cases j <;> simp [pokeImage, imageByte]
    | succ k =>
      cases j with
      | zero => simp [pokeImage, imageByte]
      | succ j =>
        have h := ih k j
        simp [imageByte] at h
        simp [pokeImage, imageByte, h]

end Sys2Proof.Machine
end

