-- ==== Sys2Proof/Laws/PerInstr.lean ====
section
/-! SUPPORT. Facts about each instruction as syntax, one lemma per constructor. -/

namespace Sys2Proof.Laws.Encoding

/-- An instruction's opcode byte announces its length (R87), and the opcode map sends that byte, with the instruction's
operand byte behind it, back to the instruction (R84). -/
def Statement (i : Instr) : Prop :=
  lengthOf i.opcode = i.length ∧ decodeInstr i.opcode (i.operandBytes.headD 0x00#8) = i

theorem brk : Statement .brk := ⟨rfl, rfl⟩
theorem und01 : Statement .und01 := ⟨rfl, rfl⟩
theorem und02 : Statement .und02 := ⟨rfl, rfl⟩
theorem und03 : Statement .und03 := ⟨rfl, rfl⟩
theorem und04 : Statement .und04 := ⟨rfl, rfl⟩
theorem und05 : Statement .und05 := ⟨rfl, rfl⟩
theorem und06 : Statement .und06 := ⟨rfl, rfl⟩
theorem und07 : Statement .und07 := ⟨rfl, rfl⟩
theorem und08 : Statement .und08 := ⟨rfl, rfl⟩
theorem und09 : Statement .und09 := ⟨rfl, rfl⟩
theorem und0A : Statement .und0A := ⟨rfl, rfl⟩
theorem und0B : Statement .und0B := ⟨rfl, rfl⟩
theorem und0C : Statement .und0C := ⟨rfl, rfl⟩
theorem und0D : Statement .und0D := ⟨rfl, rfl⟩
theorem und0E : Statement .und0E := ⟨rfl, rfl⟩
theorem und0F : Statement .und0F := ⟨rfl, rfl⟩
theorem und10 : Statement .und10 := ⟨rfl, rfl⟩
theorem und11 : Statement .und11 := ⟨rfl, rfl⟩
theorem und12 : Statement .und12 := ⟨rfl, rfl⟩
theorem und13 : Statement .und13 := ⟨rfl, rfl⟩
theorem und14 : Statement .und14 := ⟨rfl, rfl⟩
theorem und15 : Statement .und15 := ⟨rfl, rfl⟩
theorem und16 : Statement .und16 := ⟨rfl, rfl⟩
theorem und17 : Statement .und17 := ⟨rfl, rfl⟩
theorem und18 : Statement .und18 := ⟨rfl, rfl⟩
theorem und19 : Statement .und19 := ⟨rfl, rfl⟩
theorem und1A : Statement .und1A := ⟨rfl, rfl⟩
theorem und1B : Statement .und1B := ⟨rfl, rfl⟩
theorem und1C : Statement .und1C := ⟨rfl, rfl⟩
theorem und1D : Statement .und1D := ⟨rfl, rfl⟩
theorem und1E : Statement .und1E := ⟨rfl, rfl⟩
theorem und1F : Statement .und1F := ⟨rfl, rfl⟩
theorem und20 : Statement .und20 := ⟨rfl, rfl⟩
theorem und21 : Statement .und21 := ⟨rfl, rfl⟩
theorem und22 : Statement .und22 := ⟨rfl, rfl⟩
theorem und23 : Statement .und23 := ⟨rfl, rfl⟩
theorem und24 : Statement .und24 := ⟨rfl, rfl⟩
theorem und25 : Statement .und25 := ⟨rfl, rfl⟩
theorem und26 : Statement .und26 := ⟨rfl, rfl⟩
theorem und27 : Statement .und27 := ⟨rfl, rfl⟩
theorem und28 : Statement .und28 := ⟨rfl, rfl⟩
theorem und29 : Statement .und29 := ⟨rfl, rfl⟩
theorem und2A : Statement .und2A := ⟨rfl, rfl⟩
theorem und2B : Statement .und2B := ⟨rfl, rfl⟩
theorem und2C : Statement .und2C := ⟨rfl, rfl⟩
theorem und2D : Statement .und2D := ⟨rfl, rfl⟩
theorem und2E : Statement .und2E := ⟨rfl, rfl⟩
theorem und2F : Statement .und2F := ⟨rfl, rfl⟩
theorem und30 : Statement .und30 := ⟨rfl, rfl⟩
theorem und31 : Statement .und31 := ⟨rfl, rfl⟩
theorem und32 : Statement .und32 := ⟨rfl, rfl⟩
theorem und33 : Statement .und33 := ⟨rfl, rfl⟩
theorem und34 : Statement .und34 := ⟨rfl, rfl⟩
theorem und35 : Statement .und35 := ⟨rfl, rfl⟩
theorem und36 : Statement .und36 := ⟨rfl, rfl⟩
theorem und37 : Statement .und37 := ⟨rfl, rfl⟩
theorem und38 : Statement .und38 := ⟨rfl, rfl⟩
theorem und39 : Statement .und39 := ⟨rfl, rfl⟩
theorem und3A : Statement .und3A := ⟨rfl, rfl⟩
theorem und3B : Statement .und3B := ⟨rfl, rfl⟩
theorem und3C : Statement .und3C := ⟨rfl, rfl⟩
theorem und3D : Statement .und3D := ⟨rfl, rfl⟩
theorem und3E : Statement .und3E := ⟨rfl, rfl⟩
theorem und3F : Statement .und3F := ⟨rfl, rfl⟩
theorem und40 : Statement .und40 := ⟨rfl, rfl⟩
theorem und41 : Statement .und41 := ⟨rfl, rfl⟩
theorem und42 : Statement .und42 := ⟨rfl, rfl⟩
theorem und43 : Statement .und43 := ⟨rfl, rfl⟩
theorem und44 : Statement .und44 := ⟨rfl, rfl⟩
theorem und45 : Statement .und45 := ⟨rfl, rfl⟩
theorem und46 : Statement .und46 := ⟨rfl, rfl⟩
theorem und47 : Statement .und47 := ⟨rfl, rfl⟩
theorem und48 : Statement .und48 := ⟨rfl, rfl⟩
theorem und49 : Statement .und49 := ⟨rfl, rfl⟩
theorem und4A : Statement .und4A := ⟨rfl, rfl⟩
theorem und4B : Statement .und4B := ⟨rfl, rfl⟩
theorem und4C : Statement .und4C := ⟨rfl, rfl⟩
theorem und4D : Statement .und4D := ⟨rfl, rfl⟩
theorem und4E : Statement .und4E := ⟨rfl, rfl⟩
theorem und4F : Statement .und4F := ⟨rfl, rfl⟩
theorem und50 : Statement .und50 := ⟨rfl, rfl⟩
theorem und51 : Statement .und51 := ⟨rfl, rfl⟩
theorem und52 : Statement .und52 := ⟨rfl, rfl⟩
theorem und53 : Statement .und53 := ⟨rfl, rfl⟩
theorem und54 : Statement .und54 := ⟨rfl, rfl⟩
theorem und55 : Statement .und55 := ⟨rfl, rfl⟩
theorem und56 : Statement .und56 := ⟨rfl, rfl⟩
theorem und57 : Statement .und57 := ⟨rfl, rfl⟩
theorem und58 : Statement .und58 := ⟨rfl, rfl⟩
theorem und59 : Statement .und59 := ⟨rfl, rfl⟩
theorem und5A : Statement .und5A := ⟨rfl, rfl⟩
theorem und5B : Statement .und5B := ⟨rfl, rfl⟩
theorem und5C : Statement .und5C := ⟨rfl, rfl⟩
theorem und5D : Statement .und5D := ⟨rfl, rfl⟩
theorem und5E : Statement .und5E := ⟨rfl, rfl⟩
theorem und5F : Statement .und5F := ⟨rfl, rfl⟩
theorem und60 : Statement .und60 := ⟨rfl, rfl⟩
theorem und61 : Statement .und61 := ⟨rfl, rfl⟩
theorem und62 : Statement .und62 := ⟨rfl, rfl⟩
theorem und63 : Statement .und63 := ⟨rfl, rfl⟩
theorem und64 : Statement .und64 := ⟨rfl, rfl⟩
theorem und65 : Statement .und65 := ⟨rfl, rfl⟩
theorem und66 : Statement .und66 := ⟨rfl, rfl⟩
theorem und67 : Statement .und67 := ⟨rfl, rfl⟩
theorem und68 : Statement .und68 := ⟨rfl, rfl⟩
theorem und69 : Statement .und69 := ⟨rfl, rfl⟩
theorem und6A : Statement .und6A := ⟨rfl, rfl⟩
theorem und6B : Statement .und6B := ⟨rfl, rfl⟩
theorem und6C : Statement .und6C := ⟨rfl, rfl⟩
theorem und6D : Statement .und6D := ⟨rfl, rfl⟩
theorem und6E : Statement .und6E := ⟨rfl, rfl⟩
theorem und6F : Statement .und6F := ⟨rfl, rfl⟩
theorem und70 : Statement .und70 := ⟨rfl, rfl⟩
theorem und71 : Statement .und71 := ⟨rfl, rfl⟩
theorem und72 : Statement .und72 := ⟨rfl, rfl⟩
theorem und73 : Statement .und73 := ⟨rfl, rfl⟩
theorem und74 : Statement .und74 := ⟨rfl, rfl⟩
theorem und75 : Statement .und75 := ⟨rfl, rfl⟩
theorem und76 : Statement .und76 := ⟨rfl, rfl⟩
theorem und77 : Statement .und77 := ⟨rfl, rfl⟩
theorem und78 : Statement .und78 := ⟨rfl, rfl⟩
theorem und79 : Statement .und79 := ⟨rfl, rfl⟩
theorem und7A : Statement .und7A := ⟨rfl, rfl⟩
theorem und7B : Statement .und7B := ⟨rfl, rfl⟩
theorem und7C : Statement .und7C := ⟨rfl, rfl⟩
theorem und7D : Statement .und7D := ⟨rfl, rfl⟩
theorem und7E : Statement .und7E := ⟨rfl, rfl⟩
theorem und7F : Statement .und7F := ⟨rfl, rfl⟩
theorem und80 : Statement .und80 := ⟨rfl, rfl⟩
theorem und81 : Statement .und81 := ⟨rfl, rfl⟩
theorem und82 : Statement .und82 := ⟨rfl, rfl⟩
theorem und83 : Statement .und83 := ⟨rfl, rfl⟩
theorem und84 : Statement .und84 := ⟨rfl, rfl⟩
theorem und85 : Statement .und85 := ⟨rfl, rfl⟩
theorem und86 : Statement .und86 := ⟨rfl, rfl⟩
theorem und87 : Statement .und87 := ⟨rfl, rfl⟩
theorem und88 : Statement .und88 := ⟨rfl, rfl⟩
theorem und89 : Statement .und89 := ⟨rfl, rfl⟩
theorem und8A : Statement .und8A := ⟨rfl, rfl⟩
theorem und8B : Statement .und8B := ⟨rfl, rfl⟩
theorem und8C : Statement .und8C := ⟨rfl, rfl⟩
theorem und8D : Statement .und8D := ⟨rfl, rfl⟩
theorem und8E : Statement .und8E := ⟨rfl, rfl⟩
theorem und8F : Statement .und8F := ⟨rfl, rfl⟩
theorem und90 : Statement .und90 := ⟨rfl, rfl⟩
theorem und91 : Statement .und91 := ⟨rfl, rfl⟩
theorem und92 : Statement .und92 := ⟨rfl, rfl⟩
theorem und93 : Statement .und93 := ⟨rfl, rfl⟩
theorem und94 : Statement .und94 := ⟨rfl, rfl⟩
theorem und95 : Statement .und95 := ⟨rfl, rfl⟩
theorem und96 : Statement .und96 := ⟨rfl, rfl⟩
theorem und97 : Statement .und97 := ⟨rfl, rfl⟩
theorem und98 : Statement .und98 := ⟨rfl, rfl⟩
theorem und99 : Statement .und99 := ⟨rfl, rfl⟩
theorem und9A : Statement .und9A := ⟨rfl, rfl⟩
theorem und9B : Statement .und9B := ⟨rfl, rfl⟩
theorem und9C : Statement .und9C := ⟨rfl, rfl⟩
theorem und9D : Statement .und9D := ⟨rfl, rfl⟩
theorem und9E : Statement .und9E := ⟨rfl, rfl⟩
theorem und9F : Statement .und9F := ⟨rfl, rfl⟩
theorem undA0 : Statement .undA0 := ⟨rfl, rfl⟩
theorem undA1 : Statement .undA1 := ⟨rfl, rfl⟩
theorem undA2 : Statement .undA2 := ⟨rfl, rfl⟩
theorem undA3 : Statement .undA3 := ⟨rfl, rfl⟩
theorem undA4 : Statement .undA4 := ⟨rfl, rfl⟩
theorem undA5 : Statement .undA5 := ⟨rfl, rfl⟩
theorem undA6 : Statement .undA6 := ⟨rfl, rfl⟩
theorem undA7 : Statement .undA7 := ⟨rfl, rfl⟩
theorem undA8 : Statement .undA8 := ⟨rfl, rfl⟩
theorem ldaImm (imm8 : Byte) : Statement (.ldaImm imm8) :=
  ⟨rfl, show decodeInstr 0xA9#8 imm8 = _ from rfl⟩
theorem undAA : Statement .undAA := ⟨rfl, rfl⟩
theorem undAB : Statement .undAB := ⟨rfl, rfl⟩
theorem undAC : Statement .undAC := ⟨rfl, rfl⟩
theorem undAD : Statement .undAD := ⟨rfl, rfl⟩
theorem undAE : Statement .undAE := ⟨rfl, rfl⟩
theorem undAF : Statement .undAF := ⟨rfl, rfl⟩
theorem undB0 : Statement .undB0 := ⟨rfl, rfl⟩
theorem undB1 : Statement .undB1 := ⟨rfl, rfl⟩
theorem undB2 : Statement .undB2 := ⟨rfl, rfl⟩
theorem undB3 : Statement .undB3 := ⟨rfl, rfl⟩
theorem undB4 : Statement .undB4 := ⟨rfl, rfl⟩
theorem undB5 : Statement .undB5 := ⟨rfl, rfl⟩
theorem undB6 : Statement .undB6 := ⟨rfl, rfl⟩
theorem undB7 : Statement .undB7 := ⟨rfl, rfl⟩
theorem undB8 : Statement .undB8 := ⟨rfl, rfl⟩
theorem undB9 : Statement .undB9 := ⟨rfl, rfl⟩
theorem undBA : Statement .undBA := ⟨rfl, rfl⟩
theorem undBB : Statement .undBB := ⟨rfl, rfl⟩
theorem undBC : Statement .undBC := ⟨rfl, rfl⟩
theorem undBD : Statement .undBD := ⟨rfl, rfl⟩
theorem undBE : Statement .undBE := ⟨rfl, rfl⟩
theorem undBF : Statement .undBF := ⟨rfl, rfl⟩
theorem undC0 : Statement .undC0 := ⟨rfl, rfl⟩
theorem undC1 : Statement .undC1 := ⟨rfl, rfl⟩
theorem undC2 : Statement .undC2 := ⟨rfl, rfl⟩
theorem undC3 : Statement .undC3 := ⟨rfl, rfl⟩
theorem undC4 : Statement .undC4 := ⟨rfl, rfl⟩
theorem undC5 : Statement .undC5 := ⟨rfl, rfl⟩
theorem undC6 : Statement .undC6 := ⟨rfl, rfl⟩
theorem undC7 : Statement .undC7 := ⟨rfl, rfl⟩
theorem undC8 : Statement .undC8 := ⟨rfl, rfl⟩
theorem undC9 : Statement .undC9 := ⟨rfl, rfl⟩
theorem undCA : Statement .undCA := ⟨rfl, rfl⟩
theorem undCB : Statement .undCB := ⟨rfl, rfl⟩
theorem undCC : Statement .undCC := ⟨rfl, rfl⟩
theorem undCD : Statement .undCD := ⟨rfl, rfl⟩
theorem undCE : Statement .undCE := ⟨rfl, rfl⟩
theorem undCF : Statement .undCF := ⟨rfl, rfl⟩
theorem undD0 : Statement .undD0 := ⟨rfl, rfl⟩
theorem undD1 : Statement .undD1 := ⟨rfl, rfl⟩
theorem undD2 : Statement .undD2 := ⟨rfl, rfl⟩
theorem undD3 : Statement .undD3 := ⟨rfl, rfl⟩
theorem undD4 : Statement .undD4 := ⟨rfl, rfl⟩
theorem undD5 : Statement .undD5 := ⟨rfl, rfl⟩
theorem undD6 : Statement .undD6 := ⟨rfl, rfl⟩
theorem undD7 : Statement .undD7 := ⟨rfl, rfl⟩
theorem undD8 : Statement .undD8 := ⟨rfl, rfl⟩
theorem undD9 : Statement .undD9 := ⟨rfl, rfl⟩
theorem undDA : Statement .undDA := ⟨rfl, rfl⟩
theorem undDB : Statement .undDB := ⟨rfl, rfl⟩
theorem undDC : Statement .undDC := ⟨rfl, rfl⟩
theorem undDD : Statement .undDD := ⟨rfl, rfl⟩
theorem undDE : Statement .undDE := ⟨rfl, rfl⟩
theorem undDF : Statement .undDF := ⟨rfl, rfl⟩
theorem undE0 : Statement .undE0 := ⟨rfl, rfl⟩
theorem undE1 : Statement .undE1 := ⟨rfl, rfl⟩
theorem undE2 : Statement .undE2 := ⟨rfl, rfl⟩
theorem undE3 : Statement .undE3 := ⟨rfl, rfl⟩
theorem undE4 : Statement .undE4 := ⟨rfl, rfl⟩
theorem undE5 : Statement .undE5 := ⟨rfl, rfl⟩
theorem undE6 : Statement .undE6 := ⟨rfl, rfl⟩
theorem undE7 : Statement .undE7 := ⟨rfl, rfl⟩
theorem undE8 : Statement .undE8 := ⟨rfl, rfl⟩
theorem undE9 : Statement .undE9 := ⟨rfl, rfl⟩
theorem nop : Statement .nop := ⟨rfl, rfl⟩
theorem undEB : Statement .undEB := ⟨rfl, rfl⟩
theorem undEC : Statement .undEC := ⟨rfl, rfl⟩
theorem undED : Statement .undED := ⟨rfl, rfl⟩
theorem undEE : Statement .undEE := ⟨rfl, rfl⟩
theorem undEF : Statement .undEF := ⟨rfl, rfl⟩
theorem undF0 : Statement .undF0 := ⟨rfl, rfl⟩
theorem undF1 : Statement .undF1 := ⟨rfl, rfl⟩
theorem undF2 : Statement .undF2 := ⟨rfl, rfl⟩
theorem undF3 : Statement .undF3 := ⟨rfl, rfl⟩
theorem undF4 : Statement .undF4 := ⟨rfl, rfl⟩
theorem undF5 : Statement .undF5 := ⟨rfl, rfl⟩
theorem undF6 : Statement .undF6 := ⟨rfl, rfl⟩
theorem undF7 : Statement .undF7 := ⟨rfl, rfl⟩
theorem undF8 : Statement .undF8 := ⟨rfl, rfl⟩
theorem undF9 : Statement .undF9 := ⟨rfl, rfl⟩
theorem undFA : Statement .undFA := ⟨rfl, rfl⟩
theorem undFB : Statement .undFB := ⟨rfl, rfl⟩
theorem undFC : Statement .undFC := ⟨rfl, rfl⟩
theorem undFD : Statement .undFD := ⟨rfl, rfl⟩
theorem undFE : Statement .undFE := ⟨rfl, rfl⟩
theorem undFF : Statement .undFF := ⟨rfl, rfl⟩

end Sys2Proof.Laws.Encoding
end

