-- ==== Sys2Proof/Laws/Dispatch.lean ====
section
/-! SUPPORT. The four shapes of instruction, and the one lemma that says everything an instruction can do. -/

namespace Sys2Proof.Machine

/-- An instruction is `LDA`, `NOP`, `BRK` or unassigned (R84). -/
theorem instr_shape (i : Instr) : (∃ v, i = .ldaImm v) ∨ i = .nop ∨ i = .brk ∨ i.unassigned = true := by
  cases i <;> first | exact .inl ⟨_, rfl⟩ | exact .inr (.inl rfl) | exact .inr (.inr (.inl rfl)) | exact .inr (.inr (.inr rfl))

/-- Every unassigned opcode's meaning is the one shared operation (R116). -/
theorem exec_unassigned {i : Instr} (h : i.unassigned = true) (s : State) : exec i s = executeUnassigned s := by
  cases i <;> first | rfl | exact absurd h (by simp [Instr.unassigned, Instr.opcode])

theorem unassigned_iff {i : Instr} : i.unassigned = true ↔ i.opcode ≠ 0x00#8 ∧ i.opcode ≠ 0xA9#8 ∧ i.opcode ≠ 0xEA#8 := by
  simp only [Instr.unassigned, Bool.and_eq_true, bne_iff_ne, ne_eq, and_assoc]

/-- An unassigned opcode has no operand bytes (R81). -/
theorem operandBytes_unassigned {i : Instr} (h : i.unassigned = true) : i.operandBytes = [] := by
  cases i <;> first | rfl | exact absurd h (by simp [Instr.unassigned, Instr.opcode])

/-- The cost of an unassigned opcode (R103). -/
theorem cost_unassigned {i : Instr} (h : i.unassigned = true) : Pseudocode.cost i.opcode = Config.costMin := by
  obtain ⟨h0, h1, h2⟩ := unassigned_iff.mp h
  rw [Pseudocode.cost, if_neg h1, if_neg h2, if_neg h0]

/-- The state an instruction leaves when its step is not refused: `pc` past its bytes, `A` and `P` written by the operand byte if
it has one, the cycles added, the start-up charge made, the outcome reported; every other field as it was. -/
def afterExec (i : Instr) (s : State) : State :=
  { s with
    pc := s.pc + BitVec.ofNat 16 i.length
    a := i.operandBytes.headD s.a
    p := match i.operandBytes with
      | [] => s.p
      | v :: _ => Config.flagsLda s.p v
    cyc := s.cyc + BitVec.ofNat 64 (chargeOf (Pseudocode.cost i.opcode) s)
    startupPending := false
    stepResult := some (if i.opcode = 0x00#8 then .halted else .continued) }

/-- Everything an instruction can do: reach `afterExec`, or be refused because `CYC` would overflow. -/
theorem exec_eq (i : Instr) (s : State) :
    exec i s = if Fits (Pseudocode.cost i.opcode) s then .next (afterExec i s) else .refused .cycleCountOverflow := by
  rcases instr_shape i with ⟨v, rfl⟩ | rfl | rfl | h
  · have hpc : s.pc + 1#16 + 1#16 = s.pc + BitVec.ofNat 16 2 := by rw [BitVec.add_assoc]; rfl
    have hc : Pseudocode.cost (Instr.ldaImm v).opcode = Config.costLdaImm := rfl
    have hx : exec (.ldaImm v) s = instructionCycle Config.costLdaImm (loadAccumulator Config.flagsLda v) s := rfl
    rw [hx, instructionCycle_eq s fun _ _ => rfl, hc]
    have hs : ((loadAccumulator Config.flagsLda v (s.setStartupPending false).advancePc).setCyc
        (s.cyc + BitVec.ofNat 64 (chargeOf Config.costLdaImm s))) = afterExec (.ldaImm v) s :=
      State.ext_fields hpc rfl rfl rfl rfl rfl rfl rfl rfl rfl rfl rfl rfl rfl
    rw [hs]
  · exact instructionCycle_eq s fun _ _ => rfl
  · exact instructionCycle_eq s fun _ _ => rfl
  · have hx : exec i s = instructionCycle Config.costMin State.returnContinued s := exec_unassigned h s
    obtain ⟨h0, _, _⟩ := unassigned_iff.mp h
    have hs : ((State.returnContinued (s.setStartupPending false).advancePc).setCyc
        (s.cyc + BitVec.ofNat 64 (chargeOf Config.costMin s))) = afterExec i s := by
      simp only [afterExec, Instr.length, operandBytes_unassigned h, cost_unassigned h, if_neg h0]
      rfl
    rw [hx, instructionCycle_eq s fun _ _ => rfl, cost_unassigned h, hs]

/-- The inversion lemma of `exec`. -/
theorem exec_next {i : Instr} {s t : State} (h : exec i s = .next t) :
    Fits (Pseudocode.cost i.opcode) s ∧ t = afterExec i s := by
  rw [exec_eq] at h
  split at h
  · rename_i hf
    exact ⟨hf, (Host.Outcome.next.inj h).symm⟩
  · cases h

/-- The opcode map sends every byte to the instruction with that opcode (R84, R102). -/
theorem opcode_decodeInstr (op operand : Byte) : (decodeInstr op operand).opcode = op := by
  have h : ∀ n : Fin 256, (decodeInstr (BitVec.ofFin n) operand).opcode = BitVec.ofFin n := by
    intro n
    fin_cases n <;> rfl
  exact h op.toFin

/-- The operand byte belongs to 0xA9 alone (R81, R82). -/
theorem operandBytes_decodeInstr (op operand : Byte) :
    (decodeInstr op operand).operandBytes = if op = 0xA9#8 then [operand] else [] := by
  have h : ∀ n : Fin 256, (decodeInstr (BitVec.ofFin n) operand).operandBytes =
      if (BitVec.ofFin n : Byte) = 0xA9#8 then [operand] else [] := by
    intro n
    fin_cases n <;> rfl
  exact h op.toFin

end Sys2Proof.Machine
end

