-- ==== Sys2Proof/Laws/Fetch.lean ====
section
/-! SUPPORT. Placing an instruction and what a read gives afterwards. -/

namespace Sys2Proof.Machine

/-- A write outside RAM is discarded (R53). -/
theorem State.writeByte_outside (s : State) {a : Addr} (h : ¬ a.toNat < Config.ramBoundary) (v : Byte) :
    s.writeByte a v = s := by
  simp [State.writeByte, h]

theorem State.place_pc (s : State) (a : Addr) (v : Byte) : (s.place a v).pc = s.pc := by
  unfold State.place
  split
  · simp [State.writeByte_eq]
  · split <;> simp

theorem State.place_wf {s : State} (hw : s.ram.wf) (a : Addr) (v : Byte) : (s.place a v).ram.wf := by
  unfold State.place
  split
  · exact State.writeByte_wf hw a v
  · split <;> simpa using hw

/-- After a byte is placed in RAM or in the window, its address reads as it, and no other address reads differently. -/
theorem State.readByte_place {s : State} (hw : s.ram.wf) {a : Addr} (hb : backed a = true) (v : Byte) (o : Addr) :
    (s.place a v).readByte o = if o = a then v else s.readByte o := by
  unfold State.place
  by_cases h : a.toNat < Config.ramBoundary
  · rw [if_pos h, State.writeByte_eq, if_pos h]
    by_cases ho : o.toNat < Config.ramBoundary
    · rw [State.readByte_ram _ ho, State.readByte_ram _ ho, State.setRam_ram]
      split
      · rename_i e
        rw [e, Memory.read_write_same hw]
      · rename_i e
        exact Memory.read_write_other _ (fun e' => e (BitVec.eq_of_toNat_eq e')) _
    · rw [if_neg (by rintro rfl; exact ho h)]
      by_cases h2 : Config.romBase ≤ o.toNat
      · rw [State.readByte_window _ h2, State.readByte_window _ h2, State.setRam_rom]
      · rw [State.readByte_unmapped _ ho h2, State.readByte_unmapped _ ho h2]
  · have h2 : Config.romBase ≤ a.toNat := by simpa [backed, h] using hb
    rw [if_neg h, if_pos h2]
    by_cases ho : Config.romBase ≤ o.toNat
    · rw [State.readByte_window _ ho, State.readByte_window _ ho, State.setLoaded_rom, State.setRom_rom, imageByte_pokeImage]
      have : (o.toNat - Config.romBase = a.toNat - Config.romBase) ↔ o = a := by
        constructor
        · intro e
          apply BitVec.eq_of_toNat_eq
          omega
        · rintro rfl
          rfl
      simp only [this]
    · rw [if_neg (by rintro rfl; exact ho h2)]
      by_cases hr : o.toNat < Config.ramBoundary
      · rw [State.readByte_ram _ hr, State.readByte_ram _ hr, State.setLoaded_ram, State.setRom_ram]
      · rw [State.readByte_unmapped _ hr ho, State.readByte_unmapped _ hr ho]

/-- Where an instruction is placed both its bytes are backed, and RAM is untouched so far. -/
theorem State.atBackedPc_spec (s : State) :
    backed s.atBackedPc.pc = true ∧ backed (operandAddress s.atBackedPc.pc) = true ∧ s.atBackedPc.ram = s.ram := by
  unfold State.atBackedPc
  split
  · rename_i h
    rw [Bool.and_eq_true] at h
    exact ⟨h.1, h.2, rfl⟩
  · exact ⟨rfl, (by decide : backed (operandAddress Config.entryPoint) = true), rfl⟩

end Sys2Proof.Machine
end

