-- ==== Sys2Proof/Laws/Session.lean ====
section
/-! SUPPORT. The sequencer: what each shared definition can do, said once. -/

namespace Sys2Proof.Machine.Session

/-- The inversion lemma of `run_frame` (R152): no frame, or a batch and then the frame and its count. -/
theorem runFrame_cases {q : Params} {s t : State} {r : Response} (h : runFrame q s = .next (t, r)) :
    (s.loaded = false ∧ t = s ∧ r = .noFrame) ∨
    (s.loaded = true ∧ ∃ u b, runBatch q.stepsPerFrame 1 s = .next (u, b) ∧ t = u.setFrameCount (u.frameCount + 1) ∧
      r = .frame (renderFrame q.pattern u.frameCount) b) := by
  unfold runFrame at h
  split at h
  · rename_i hl
    obtain ⟨⟨u, b⟩, hu, h⟩ := andThen_eq_next.mp h
    injection h with h
    simp only [finishFrame, Prod.mk.injEq] at h
    exact .inr ⟨hl, u, b, hu, h.1.symm, h.2.symm⟩
  · rename_i hl
    injection h with h
    simp only [Prod.mk.injEq] at h
    exact .inl ⟨by simpa using hl, h.1.symm, h.2.symm⟩

/-- What every step keeps, with its result taken, a batch keeps. -/
theorem runBatch_keeps {P : State → Prop} (hstep : ∀ s t, P s → step s = .next t → P (t.setStepResult none))
    {n k : Nat} {s t : State} {b : Batch} (hs : P s) (h : runBatch n k s = .next (t, b)) : P t := by
  induction n generalizing k s with
  | zero =>
    simp only [runBatch, Host.Outcome.next.injEq, Prod.mk.injEq] at h
    exact h.1 ▸ hs
  | succ n ih =>
    simp only [runBatch] at h
    obtain ⟨u, hu, h⟩ := andThen_eq_next.mp h
    split at h
    · simp only [Host.Outcome.next.injEq, Prod.mk.injEq] at h
      exact h.1 ▸ hstep s u hs hu
    · exact ih (hstep s u hs hu) h

/-- The inversion lemma of `run`. -/
theorem run_cons {q : Params} {c : Command} {cs : List Command} {s t : State} {rs : List Response}
    (h : run q (c :: cs) s = some (.next (t, rs))) :
    ∃ u x rs', issue q c s = some (.next (u, x)) ∧ run q cs u = some (.next (t, rs')) ∧ rs = x :: rs' := by
  simp only [run] at h
  split at h
  · cases h
  · cases h
  · cases h
  · rename_i u x hi
    split at h
    · cases h
    · rename_i o ho
      injection h with h
      obtain ⟨⟨v, ys⟩, rfl, h⟩ := andThen_eq_next.mp h
      injection h with h
      injection h with h1 h2
      subst h1
      exact ⟨u, x, ys, hi, ho, h2.symm⟩

/-- The inversion lemma of `moves`. -/
theorem moves_cons {q : Params} {m : Move} {ms : List Move} {s t : State} {rs : List Response}
    (h : moves q (m :: ms) s = some (.next (t, rs))) :
    ∃ u x rs', move q m s = some (.next (u, x)) ∧ moves q ms u = some (.next (t, rs')) ∧ rs = x :: rs' := by
  simp only [moves] at h
  split at h
  · cases h
  · cases h
  · cases h
  · rename_i u x hi
    split at h
    · cases h
    · rename_i o ho
      injection h with h
      obtain ⟨⟨v, ys⟩, rfl, h⟩ := andThen_eq_next.mp h
      injection h with h
      injection h with h1 h2
      subst h1
      exact ⟨u, x, ys, hi, ho, h2.symm⟩

/-- A command that is issued does what `perform` says. -/
theorem perform_of_issue {q : Params} {c : Command} {s : State} {o : Answer} (h : issue q c s = some o) :
    perform q c s = o := by
  unfold issue at h
  split at h
  · injection h
  · cases h

/-- The inversion lemma of the stepper's move (R152, R153). -/
theorem stepperMove_cases {q : Params} {r : FrameRun} {s t : State} {x : Response} (h : stepperMove q r s = .next (t, x)) :
    (r.batch = .completed ∧ r.taken < q.stepsPerFrame ∧ ∃ u, step s = .next u ∧ t = noteStep r u ∧ x = .running) ∨
    (¬ (r.batch = .completed ∧ r.taken < q.stepsPerFrame) ∧ (t, x) = finishFrame q r.batch (s.setFrameRun none)) := by
  unfold stepperMove at h
  split at h
  · rename_i hc
    obtain ⟨u, hu, h⟩ := andThen_eq_next.mp h
    simp only [Host.Outcome.next.injEq, Prod.mk.injEq] at h
    exact .inl ⟨hc.1, hc.2, u, hu, h.1.symm, h.2.symm⟩
  · rename_i hc
    injection h with h
    exact .inr ⟨hc, h.symm⟩

end Sys2Proof.Machine.Session
end

