-- ==== Sys2Proof/Tests/Slice0.lean ====
section
/-! SUPPORT. Tests on fixed values, all taken from spec/95_test_vectors.md and the worked examples of the rules, the refusals of
WellFormed, and a witness for the hypotheses of every statement that has some. -/

namespace Sys2Proof.Tests

open Sys2Proof.Machine Sys2Proof.Machine.Session

/-! ### Helpers -/

/-- "Fresh load of" an image (95_test_vectors). -/
def fresh (image : List Byte) : State := (load (some image) State.reset).1

/-- A state past its first step: `pc`, `A`, `CYC` as given, start-up charge made. -/
def at_ (pc : Addr) (a : Byte) (cyc : CycleCount) (image : List Byte) : State :=
  { fresh image with pc := pc, a := a, cyc := cyc, startupPending := false }

/-- The sequencer's parameters with a concrete budget and the spec's default pattern. -/
def budget (n : Nat) : Params where
  stepsPerFrame := n
  pattern := Config.patternDefault

/-- The registers the vectors of section 2 list: `pc`, `A`, `CYC`, `startup_pending`, outcome. -/
def view : Result → Option (Nat × Nat × Nat × Bool × Option StepOutcome)
  | .next s => some (s.pc.toNat, s.a.toNat, s.cyc.toNat, s.startupPending, s.stepResult)
  | _ => none

/-- What section 2.6 lists of a frame: its `batch`, then `pc`, `CYC`, `frame_count`. -/
def frameView : Answer → Option (Batch × Nat × Nat × Nat)
  | .next (s, .frame _ b) => some (b, s.pc.toNat, s.cyc.toNat, s.frameCount)
  | _ => none

/-! ### Decoding: words written out from R81, R82, R84 -/

theorem test_decode_lda : decode [0b10101001, 0b01000010, 0b11101010] = .ok (.ldaImm 0x42, [0b11101010]) := by decide
theorem test_decode_nop : decode [0b11101010] = .ok (.nop, []) := by decide
theorem test_decode_brk : decode [0b00000000] = .ok (.brk, []) := by decide
theorem test_decode_und : decode [0b10101000, 0x00] = .ok (.undA8, [0x00]) := by decide
theorem test_decode_nothing : decode [] = .error .noOpcode := by decide
theorem test_decode_cut_off : decode [0xA9] = .error .noOperand := by decide
theorem test_table_word_lda : decodeTableWord 16 0x42A9 = some (.ldaImm 0x42) := by decide
theorem test_table_word_short : decodeTableWord 8 0xA9 = some (.ldaImm 0x00) := by decide
theorem test_assemble_p1 : assemble [.org 0x8000, .lda 0x42, .nop, .brk] = [0xA9, 0x42, 0xEA, 0x00] := by decide

/-! ### WellFormed refuses -/

theorem test_wf_lda_256 : (AsmLine.lda 256).wellFormed = false := by decide
theorem test_wf_und_256 : (AsmLine.und 256).wellFormed = false := by decide
theorem test_wf_und_00 : (AsmLine.und 0x00).wellFormed = false := by decide
theorem test_wf_und_A9 : (AsmLine.und 0xA9).wellFormed = false := by decide
theorem test_wf_und_EA : (AsmLine.und 0xEA).wellFormed = false := by decide
theorem test_wf_data_256 : (AsmLine.data [1, 256]).wellFormed = false := by decide
theorem test_wf_org_65536 : (AsmLine.org 0x10000).wellFormed = false := by decide
theorem test_wf_no_org : asmWellFormed [.comment "P1", .nop] = false := by decide
theorem test_wf_other_org : asmWellFormed [.org 0x9000, .nop] = false := by decide
theorem test_wf_org_gap : asmWellFormed [.org 0x8000, .nop, .org 0x8002] = false := by decide
theorem test_wf_bad_line : asmWellFormed [.org 0x8000, .lda 300] = false := by decide
theorem test_wf_p1 : asmWellFormed [.comment "P1", .org 0x8000, .lda 0x42, .nop, .brk, .und 0x02, .data [1]] = true := by
  decide

/-! ### One step (sections 1 and 2.2 to 2.5) -/

theorem test_s1_step1 :
    view (step (fresh [0xA9, 0x42, 0xEA, 0x00])) = some (0x8002, 0x42, 4, false, some .continued) := by decide
theorem test_s1_step3 :
    view (step (at_ 0x8003 0x42 6 [0xA9, 0x42, 0xEA, 0x00])) = some (0x8004, 0x42, 6, false, some .halted) := by decide
theorem test_lda_operand_beyond_image :
    view (step (at_ 0x8002 0x11 10 [0xEA, 0xEA, 0xA9])) = some (0x8004, 0x00, 12, false, some .continued) := by decide
theorem test_lda_into_unmapped :
    view (step { at_ 0x1FFF 0x55 10 [] with ram := [(0x1FFF, 0xA9)] }) = some (0x2001, 0x00, 12, false, some .continued) := by
  decide
theorem test_nop : view (step (at_ 0x8002 0x42 4 [0xA9, 0x42, 0xEA])) = some (0x8003, 0x42, 6, false, some .continued) := by
  decide
theorem test_nop_first : view (step (fresh [0xEA])) = some (0x8001, 0x00, 4, false, some .continued) := by decide
theorem test_brk_first : view (step (fresh [0x00])) = some (0x8001, 0x00, 2, false, some .halted) := by decide
theorem test_und02 : view (step (at_ 0x8000 0x42 6 [0x02])) = some (0x8001, 0x42, 8, false, some .continued) := by decide
theorem test_und4C_skips_nothing :
    view (step (at_ 0x8000 0x42 20 [0x4C, 0x00, 0x80])) = some (0x8001, 0x42, 22, false, some .continued) := by decide
theorem test_unmapped_halts : view (step (at_ 0x3000 0 8 [0xEA])) = some (0x3001, 0x00, 8, false, some .halted) := by decide
theorem test_ram_wrap : view (step (at_ 0xFFFF 0 50 [])) = some (0x0000, 0x00, 50, false, some .halted) := by decide
theorem test_overflow_refused :
    view (step (at_ 0x8000 0 0xFFFFFFFFFFFFFFFE [0xEA])) = none := by decide

/-- With the default `FLAGS_LDA` the flags stay (section 2.3). -/
theorem test_lda_default_flags :
    (match execLdaImmWith Config.flagsLdaDefault 0x00 { fresh [] with p := 0x5A } with
      | .next s => some s.p
      | _ => none) = some 0x5A := by decide

/-! ### The decoder (section 2.1) -/

/-- The state of section 2.1. -/
def s21 : State := { fresh [0x10, 0x20, 0x30] with ram := [(0, 0xAA), (0x1FFF, 0xBB)] }

theorem test_read_ram_top : s21.readPort 0x1FFF = 0xBB := by decide
theorem test_read_unmapped : s21.readPort 0x7FFF = 0x00 := by decide
theorem test_read_image : s21.readPort 0x8002 = 0x30 := by decide
theorem test_read_beyond : s21.readPort 0x8003 = 0x00 := by decide
theorem test_read_reduced : s21.readPort 0x18000 = 0x10 := by decide
theorem test_write_rom : (s21.writePort 0x8000 0x55).readPort 0x8000 = 0x10 := by decide
theorem test_write_300 : (s21.writePort 0x1FFF 300).readPort 0x1FFF = 0x2C := by decide
theorem test_write_zero_unlists : (s21.writePort 0x1FFF 0).ram = [(0, 0xAA)] := by decide

/-! ### Frames (sections 2.6, 2.10), latch (2.9), session (2.7, 2.8) -/

theorem test_frame_budget0 : frameView (runFrame (budget 0) (fresh [0xEA])) = some (.completed, 0x8000, 0, 1) := by decide
theorem test_frame_p1 :
    frameView (runFrame (budget 10) (fresh [0xA9, 0x42, 0xEA, 0x00])) = some (.haltedAt 3, 0x8004, 6, 1) := by decide
theorem test_frame_empty_image : frameView (runFrame (budget 5) (fresh [])) = some (.haltedAt 1, 0x8001, 2, 1) := by decide
theorem test_unloaded : runFrame (budget 5) State.reset = .next (State.reset, .noFrame) := rfl
theorem test_pattern_5 : Config.patternDefault 255 223 5 = ⟨0xFA, 0xDA, 0x25⟩ := by decide
theorem test_pattern_256 : Config.patternDefault 3 4 256 = ⟨0x03, 0x04, 0x07⟩ := by decide
theorem test_byte_index : byteIndex 255 223 2 = 172031 := by decide
theorem test_latch_width10 : latchBits 10 1025 = 1 := by decide
theorem test_latch_width12 : latchBits 12 1024 = 1024 := by decide
theorem test_reset_of_creation : resetSession State.reset = State.reset := rfl
theorem test_load_none : load none s21 = (s21, .ioFailure) := rfl
theorem test_load_state_never_saved : (loadState 4 (saveState 3 s21)).2 = .noSuchSlot := by decide
theorem test_save_negative_key : (loadState (-1) (saveState (-1) s21)).2 = .restored := by decide
theorem test_load_state_restores_ram :
    (loadState 0 ((saveState 0 s21).writePort 0x10 0x99)).1.readPort 0x10 = 0x00 := by decide

/-! ### The host's two questions -/

theorem test_fetch_word_from_reset :
    view (step (State.reset.withFetchWord 16 0x42A9)) = some (0x8002, 0x42, 4, false, some .continued) := by decide
theorem test_fetch_word_from_unmapped :
    view (step ({ State.reset with pc := 0x7FFF }.withFetchWord 8 0xFF)) = some (0x8001, 0, 4, false, some .continued) := by
  decide

/-! ### Witnesses: the hypotheses of each statement are met together -/

theorem witness_DecodeEncode : (Instr.ldaImm 0xFF).wellFormed = true := rfl
theorem witness_EncodeDecode : decode [0xA9, 0x00] = .ok (.ldaImm 0x00, []) := by decide
theorem witness_RowsAreDistinct :
    Instr.und01.opcode = Instr.und01.opcode ∧ Instr.und01.operandBytes = Instr.und01.operandBytes := ⟨rfl, rfl⟩
theorem witness_EveryByteExecutes :
    State.reset.cyc.toNat + 4 < 2 ^ 64 ∧ Fits Config.costMin State.reset ∧ (0x01#8 ≠ 0x00#8 ∧ 0x01#8 ≠ 0xA9#8 ∧ 0x01#8 ≠ 0xEA#8) := by
  decide
theorem witness_AssemblerLines : (AsmLine.lda 255).wellFormed = true ∧ (AsmLine.und 0xFF).wellFormed = true ∧
    (AsmLine.data [0, 255]).wellFormed = true := by decide
theorem witness_StepRunsDecodedInstruction :
    decode [(fresh [0xEA]).readByte (fresh [0xEA]).pc, (fresh [0xEA]).readByte ((fresh [0xEA]).pc + 1#16)] =
      .ok (.nop, [0x00]) ∧ Instr.nop.wellFormed = true := by decide
theorem witness_DispatchByOpcode :
    (fresh [0xA9]).readByte 0x8000 = 0xA9#8 ∧ (fresh [0xEA]).readByte 0x8000 = 0xEA#8 ∧
    (fresh []).readByte 0x8000 = 0x00#8 ∧ (fresh [0x01]).readByte 0x8000 = 0x01#8 ∧
    (at_ 0x8001 0 0 [0x00, 0x01]).readByte 0x8001 = (fresh [0x01]).readByte 0x8000 := by decide
theorem witness_StepStopsOnlyOnOverflow :
    Fits 2 (at_ 0x8000 0 0xFFFFFFFFFFFFFFFD [0xEA]) ∧ ¬ Fits 2 (at_ 0x8000 0 0xFFFFFFFFFFFFFFFE [0xEA]) := by decide
theorem witness_FirstStepOverhead :
    (at_ 0x8000 0 0 []).startupPending = false ∧ (at_ 0x8000 0 0 []).cyc.toNat + 4 < 2 ^ 64 := by decide
theorem witness_StepIsSequential : ∃ t u, step (at_ 0xFFFF 0 0 []) = .next t ∧ step (fresh [0xA9, 0x01]) = .next u :=
  ⟨_, _, rfl, rfl⟩
/-- `LDA` at 0x1FFF, the last address of RAM, and with its operand at 0x2000. -/
theorem witness_LdaOperandFromNextAddress :
    let s : State := { at_ 0x1FFF 0 0 [] with ram := [(0x1FFF, 0xA9)] }
    s.readByte s.pc = 0xA9#8 ∧ Fits 2 s := by decide
theorem witness_UnbackedFetchHalts :
    (0x2000 ≤ (at_ 0x2000 0 0 []).pc.toNat ∧ (at_ 0x7FFF 0 0 []).pc.toNat < 0x8000) ∧
    0x8000 + (at_ 0x8001 0 0 [0xEA]).rom.length ≤ (at_ 0x8001 0 0 [0xEA]).pc.toNat ∧ Fits 0 (at_ 0x2000 0 0 []) ∧
    Fits 0 (at_ 0x7FFF 0 0 []) ∧ Fits 0 (at_ 0x8001 0 0 [0xEA]) := by decide
theorem witness_LdaResult : Fits 2 State.reset ∧ Fits 2 (at_ 0xFFFF 0 0 []) := by decide
theorem witness_NopResult : Fits 2 (fresh [0xEA]) := by decide
theorem witness_UnassignedResult :
    Instr.undFF.opcode ≠ 0x00#8 ∧ Instr.undFF.opcode ≠ 0xA9#8 ∧ Instr.undFF.opcode ≠ 0xEA#8 ∧ Fits 2 (fresh [0xFF]) := by decide
theorem witness_BrkResult : Fits 0 State.reset ∧ Fits 0 (at_ 0 0 0xFFFFFFFFFFFFFFFF []) := by decide
theorem witness_LdaFrame : ∃ t, exec (.ldaImm 7) State.reset = .next t := ⟨_, rfl⟩
theorem witness_ImpliedFrame : ∃ t u v, exec .nop State.reset = .next t ∧ exec .brk State.reset = .next u ∧
    exec .und20 State.reset = .next v ∧ Instr.und20.opcode ≠ 0xA9#8 := ⟨_, _, _, rfl, rfl, rfl, by decide⟩
/-- Two images that differ beyond the window. -/
theorem witness_ImageTailIsInert :
    (List.replicate 32768 0xEA#8 ++ [0x01#8]).take 32768 = (fresh (List.replicate 32768 0xEA#8)).rom.take 32768 := by
  have : (fresh (List.replicate 32768 0xEA#8)).rom = List.replicate 32768 0xEA#8 := rfl
  rw [this, List.take_left' (List.length_replicate), List.take_of_length_le (by rw [List.length_replicate])]
theorem witness_DecoderRegions :
    s21.ram.wf ∧ (0x1FFF#16).toNat < 0x2000 ∧ (0x2000 ≤ (0x2000#16).toNat ∧ (0x7FFF#16).toNat < 0x8000) ∧
    (0x8000 ≤ (0x8000#16).toNat ∧ (0x8002#16).toNat < 0x8000 + min s21.rom.length 32768) ∧
    0x8000 + min s21.rom.length 32768 ≤ (0x8003#16).toNat := by decide
theorem witness_WraparoundAndBounds :
    s21.ram.wf ∧ (0 : Int) ≤ 0x1FFF ∧ (0x1FFF : Int) < 0x2000 ∧ 0x8000 + (s21.rom.length : Int) ≤ 0x8003 ∧
    (0x8003 : Int) ≤ 0xFFFF := by decide
theorem witness_HostReadsAndWrites : s21.ram.wf ∧ (0x2000 : Int) ≤ 0x2000 % 65536 := by decide
theorem witness_WriteFrame : (0x0001#16 : Addr) ≠ 0x0000#16 := by decide
theorem witness_UpperRamIsUnreachable :
    0x2000 ≤ 0x2000 ∧ ∀ k, k < 0x2000 → Memory.read [(0x2000, 0x01#8)] k = Memory.read [] k := by
  refine ⟨le_refl _, fun k hk => ?_⟩
  simp only [Memory.read, if_neg (by omega : ¬ k = 0x2000)]
theorem witness_CanonicalMemory :
    Memory.wf [(0x10, 0xAB)] ∧ ∀ k, Memory.read [(0x10, 0xAB)] k = Memory.read [(0x10, 0xAB)] k := ⟨by decide, fun _ => rfl⟩
theorem witness_WrittenCodeRuns : (at_ 0x1FFE 0 0 []).ram.wf ∧ (at_ 0x1FFE 0 0 []).pc.toNat + 1 < 0x2000 := by decide
theorem witness_PlacedInstructionRunsNext : State.reset.ram.wf := by decide
theorem witness_FramesArePure :
    (fresh [0xA9, 0x42]).frameCount = (fresh []).frameCount ∧
    ∃ t f b t' f' b', runFrame (budget 2) (fresh [0xA9, 0x42]) = .next (t, .frame f b) ∧
      runFrame (budget 2) (fresh []) = .next (t', .frame f' b') := ⟨rfl, _, _, _, _, _, _, rfl, rfl⟩
theorem witness_FrameSequence :
    (fresh [0xEA]).loaded = true ∧
    (∃ t rs, run (budget 1) (.reset :: List.replicate 2 .runFrame) (fresh [0xEA]) = some (.next (t, rs))) ∧
    (∃ t rs, run (budget 1) (.load (some [0xEA]) :: List.replicate 2 .runFrame) State.reset = some (.next (t, rs))) :=
  ⟨rfl, ⟨_, _, rfl⟩, ⟨_, _, rfl⟩⟩
theorem witness_LatchOverwrite : 1023 < 1024 := by decide
theorem witness_LatchRead :
    (∀ m ∈ [Move.sampleLatch, .host .readLatch], m.isInput = false) ∧
    moves (budget 1) [.sampleLatch, .host .readLatch] State.reset =
      some (.next (State.reset, [.latch State.reset.btn, .latch State.reset.btn])) := ⟨by decide, rfl⟩
theorem witness_LatchHasNoQueue :
    (∀ c ∈ [Command.reset], c ≠ .readLatch ∧ ∀ m, c ≠ .setInput m) ∧
    (∀ c ∈ [Command.readLatch], ∀ m, c ≠ .setInput m) ∧
    ∃ t rs bits, run (budget 1) (.setInput 1 :: [.reset] ++ .setInput 0 :: [.readLatch]) State.reset = some (.next (t, rs)) ∧
      .latch bits ∈ rs :=
  ⟨by simp, by simp, _, _, _, rfl, .tail _ (.tail _ (.tail _ (.head _)))⟩
theorem witness_LatchOutsideLifeCycles :
    (∃ image, Command.load (some [0xEA]) = .load image) ∧ (∃ k, Command.saveState 0 = .saveState k) ∧
    (∃ k, Command.loadState 0 = .loadState k) := ⟨⟨_, rfl⟩, ⟨_, rfl⟩, ⟨_, rfl⟩⟩
/-- A `set_input` between two steps of a `run_frame`. -/
theorem witness_InputsNeverInterfere :
    ∃ t rs, moves (budget 2) [.host .runFrame, .stepper, .host (.setInput 1), .stepper, .stepper] (fresh [0xEA, 0xEA]) =
      some (.next (t, rs)) := ⟨_, _, rfl⟩
theorem witness_LoadReplacesImage :
    (∀ image, Command.reset ≠ .load image) ∧ perform (budget 1) .reset s21 = .next (resetSession s21, .done) ∧ 32767 < 32768 :=
  ⟨fun _ => by simp, rfl, by decide⟩
theorem witness_ResetLaw :
    s21.loaded = true ∧ perform (budget 1) .reset s21 = .next (resetSession s21, .done) ∧
    (∃ t f b, runFrame (budget 1) (resetSession s21) = .next (t, .frame f b)) ∧
    perform (budget 1) (.load (some [0xEA])) State.reset = .next (fresh [0xEA], .loaded) ∧
    ∃ t f b, runFrame (budget 1) (fresh [0xEA]) = .next (t, .frame f b) :=
  ⟨rfl, rfl, ⟨_, _, _, rfl⟩, rfl, ⟨_, _, _, rfl⟩⟩
theorem witness_FrameIsStepsUntilHalt :
    Idle (fresh [0xEA]) ∧ (∃ t f, runFrame (budget 1) (fresh [0xEA]) = .next (t, .frame f .completed)) ∧
    ∃ t f, runFrame (budget 3) (fresh [0xEA]) = .next (t, .frame f (.haltedAt 2)) :=
  ⟨⟨rfl, rfl⟩, ⟨_, _, rfl⟩, ⟨_, _, rfl⟩⟩
theorem witness_FrameKeepsMemory : ∃ t r, runFrame (budget 2) s21 = .next (t, r) := ⟨_, _, rfl⟩
theorem witness_FrameCycles : ∃ t r, runFrame (budget 2) (fresh [0xEA, 0xEA]) = .next (t, r) := ⟨_, _, rfl⟩
theorem witness_SessionsNeverFail :
    (fresh []).loaded = true ∧ (fresh []).cyc.toNat + 2 + 2 * (budget 9).stepsPerFrame < 2 ^ 64 ∧ (fresh []).frameRun = none := by
  decide
theorem witness_NothingRunsBeforeLoad :
    (∀ c ∈ [Command.runFrame, .debugWrite 0 1, .load none], ∀ image, c ≠ .load (some image)) ∧
    ∃ t rs, run (budget 1) [.runFrame, .debugWrite 0 1, .load none] State.reset = some (.next (t, rs)) :=
  ⟨by simp, _, _, rfl⟩
/-- A machine with a `run_frame` in progress. -/
def inFrame : State := (beginFrame (fresh [0xEA])).1
theorem witness_SetInputResult : inFrame.frameRun ≠ none := by decide
theorem witness_HostIsSerialised :
    inFrame.frameRun = some ⟨0, .completed⟩ ∧ (∀ m, Command.reset ≠ .setInput m) ∧ s21.frameRun = none :=
  ⟨rfl, fun _ => by simp, rfl⟩
theorem witness_MovesMakeTheFrame :
    Idle (fresh [0xEA]) ∧ ∃ t f b, runFrame (budget 3) (fresh [0xEA]) = .next (t, .frame f b) := ⟨⟨rfl, rfl⟩, _, _, _, rfl⟩
theorem witness_SaveStateResult : (saveState 3 s21).slots.wf := by decide
theorem witness_UnknownSlot : s21.slots.find 0 = none := rfl
theorem witness_SaveLoadRoundTrip :
    (∀ c ∈ [Command.runFrame, .saveState 1], c ≠ .saveState 0) ∧
    ∃ t rs, run (budget 1) (.saveState 0 :: [.runFrame, .saveState 1]) (fresh [0xEA]) = some (.next (t, rs)) :=
  ⟨by decide, _, _, rfl⟩
theorem witness_StepKeepsInvariant : MachineInv s21 ∧ ∃ t, step s21 = .next t := ⟨by decide, _, rfl⟩
theorem witness_MovesKeepInvariant :
    SessionInv (budget 1) inFrame ∧ ∃ t r, move (budget 1) .stepper inFrame = some (.next (t, r)) :=
  ⟨⟨by decide, rfl, by decide, fun r hr => by cases hr; decide⟩, _, _, rfl⟩
theorem witness_CommandsKeepInvariant :
    SessionInv (budget 1) s21 ∧ s21.frameRun = none ∧
    ∃ t rs, run (budget 1) [.runFrame, .saveState 0, .loadState 0] s21 = some (.next (t, rs)) :=
  ⟨⟨by decide, rfl, by decide, fun r hr => by cases hr⟩, rfl, _, _, rfl⟩
/-- Unloaded, with a byte written to RAM and a snapshot in a slot. -/
theorem witness_CommandsBeforeLoadKeepCreation :
    Unloaded (saveState 3 (State.reset.writePort 5 9)) ∧ ∀ image, Command.loadState 3 ≠ .load (some image) :=
  ⟨by decide, fun _ => by simp⟩

end Sys2Proof.Tests
end

section
/-! PROOF. What a step and every command keep of `MachineInv` and of `Idle`, and the run of commands assembled from it. -/

namespace Sys2Proof.Machine

/-! ### The counters (R25, R101, R103) -/

/-- Every row of the cost table is even (R103). -/
theorem cost_even (op : Byte) : Pseudocode.cost op % 2 = 0 := by
  unfold Pseudocode.cost
  split
  · rfl
  · split
    · rfl
    · split <;> rfl

/-- A step adds an even number of cycles, the start-up overhead included (R101, R103). -/
theorem chargeOf_even {cost : Nat} (hcost : cost % 2 = 0) (s : State) : chargeOf cost s % 2 = 0 := by
  unfold chargeOf
  split
  · rw [Nat.add_mod, hcost]
    rfl
  · rwa [Nat.zero_add]

/-- Adding an even number of cycles keeps `CYC` even. -/
theorem addCyc_even {c : CycleCount} {n : Nat} (hc : c.toNat % 2 = 0) (hn : n % 2 = 0) :
    (c + BitVec.ofNat 64 n).toNat % 2 = 0 := by
  rw [BitVec.toNat_add, BitVec.toNat_ofNat]
  omega

/-- The counters as a reset leaves them: no cycle, the overhead due, `pc` at the entry point (R25, R151). -/
theorem countersWf_reset : CountersWf Config.entryPoint 0#64 true := ⟨rfl, fun _ => ⟨rfl, rfl⟩⟩

/-- After an instruction the overhead is no longer due, and the count is still even. -/
theorem afterExec_countersWf (i : Instr) {s : State} (h : CountersWf s.pc s.cyc s.startupPending) :
    CountersWf (afterExec i s).pc (afterExec i s).cyc (afterExec i s).startupPending := by
  obtain ⟨heven, -⟩ := h
  exact ⟨addCyc_even heven (chargeOf_even (cost_even i.opcode) s), nofun⟩

/-! ### What a step keeps -/

/-- The inversion lemma of `step`. -/
theorem step_next {s t : State} (h : step s = .next t) : t = afterExec (fetch s) s := (exec_next h).2

theorem afterExec_frameRun (i : Instr) (s : State) : (afterExec i s).frameRun = s.frameRun := rfl

/-- An instruction writes neither RAM, the image nor the slots, so only the counters need an argument. -/
theorem step_keeps_machineInv {s t : State} (hs : MachineInv s) (h : step s = .next t) : MachineInv t := by
  obtain ⟨hram, hslots, himage, hcounters, hsnapshots⟩ := hs
  rw [step_next h]
  exact ⟨hram, hslots, himage, afterExec_countersWf (fetch s) hcounters, hsnapshots⟩

/-- A step whose result is taken leaves the machine between commands as it was. -/
theorem step_keeps_idle {s t : State} (hs : Idle s) (h : step s = .next t) : Idle (t.setStepResult none) := by
  obtain ⟨hframe, -⟩ := hs
  refine ⟨?_, State.setStepResult_stepResult t none⟩
  rw [State.setStepResult_frameRun, step_next h, afterExec_frameRun, hframe]

/-! ### What the state's operations keep of `MachineInv` -/

theorem MachineInv.snapshot {s : State} (hs : MachineInv s) : s.snapshot.wf := by
  obtain ⟨hram, -, -, hcounters, -⟩ := hs
  exact ⟨hram, hcounters⟩

theorem MachineInv.restore {s : State} {x : Snapshot} (hs : MachineInv s) (hx : x.wf) : MachineInv (s.restore x) := by
  obtain ⟨-, hslots, himage, -, hsnapshots⟩ := hs
  obtain ⟨hram, hcounters⟩ := hx
  exact ⟨hram, hslots, himage, hcounters, hsnapshots⟩

theorem MachineInv.putSlot {s : State} {x : Snapshot} (hs : MachineInv s) (hx : x.wf) (k : Int) :
    MachineInv (s.setSlots (s.slots.put k x)) := by
  obtain ⟨hram, hslots, himage, hcounters, hsnapshots⟩ := hs
  refine ⟨hram, Slots.put_wf hslots k x, himage, hcounters, fun e he => ?_⟩
  rcases Slots.mem_put he with rfl | he
  · exact hx
  · exact hsnapshots e he

theorem MachineInv.writePort {s : State} (hs : MachineInv s) (a v : Int) : MachineInv (s.writePort a v) := by
  obtain ⟨hram, hslots, himage, hcounters, hsnapshots⟩ := hs
  have hw : (s.writePort a v).ram.wf := State.writeByte_wf hram (portAddress a) (portByte v)
  unfold State.writePort at hw ⊢
  rw [State.writeByte_eq] at hw ⊢
  exact ⟨hw, hslots, himage, hcounters, hsnapshots⟩

theorem State.writePort_frameRun (s : State) (a v : Int) : (s.writePort a v).frameRun = s.frameRun := by
  rw [State.writePort, State.writeByte_eq, State.setRam_frameRun]

theorem State.writePort_stepResult (s : State) (a v : Int) : (s.writePort a v).stepResult = s.stepResult := by
  rw [State.writePort, State.writeByte_eq, State.setRam_stepResult]

end Sys2Proof.Machine

namespace Sys2Proof.Machine.Session

/-! ### What each command keeps -/

theorem resetSession_keeps_machineInv {s : State} (hs : MachineInv s) : MachineInv (resetSession s) := by
  obtain ⟨hram, hslots, himage, -, hsnapshots⟩ := hs
  exact ⟨hram, hslots, himage, countersWf_reset, hsnapshots⟩

/-- A load that succeeds makes the machine loaded, so any image may stand in it (R27, R150). -/
theorem load_keeps_machineInv {image : Option (List Byte)} {s t : State} {r : Response} (hs : MachineInv s)
    (h : load image s = (t, r)) : MachineInv t := by
  cases image with
  | none => cases h; exact hs
  | some bytes =>
    cases h
    obtain ⟨hram, hslots, -, hcounters, hsnapshots⟩ := hs
    have hloaded : MachineInv ((s.loadProgram bytes).setLoaded true) :=
      ⟨hram, hslots, nofun, hcounters, hsnapshots⟩
    exact resetSession_keeps_machineInv hloaded

/-- Every snapshot in the slots meets the invariant, so the one restored does (R156). -/
theorem loadState_keeps_machineInv {slot : Int} {s t : State} {r : Response} (hs : MachineInv s)
    (h : loadState slot s = (t, r)) : MachineInv t := by
  unfold loadState at h
  split at h
  next x hfind =>
    cases h
    have ⟨_, _, _, _, hsnapshots⟩ := hs
    exact hs.restore (hsnapshots (slot, x) (Slots.mem_of_find hfind))
  next => cases h; exact hs

theorem runFrame_keeps_machineInv {q : Params} {s t : State} {r : Response} (hs : MachineInv s)
    (h : runFrame q s = .next (t, r)) : MachineInv t := by
  rcases runFrame_cases h with ⟨-, rfl, -⟩ | ⟨-, u, b, hbatch, rfl, -⟩
  · exact hs
  · have hu : MachineInv u := runBatch_keeps (P := MachineInv) (fun _ _ => step_keeps_machineInv) hs hbatch
    exact hu

theorem runFrame_keeps_idle {q : Params} {s t : State} {r : Response} (hs : Idle s)
    (h : runFrame q s = .next (t, r)) : Idle t := by
  rcases runFrame_cases h with ⟨-, rfl, -⟩ | ⟨-, u, b, hbatch, rfl, -⟩
  · exact hs
  · have hu : Idle u := runBatch_keeps (P := Idle) (fun _ _ => step_keeps_idle) hs hbatch
    exact hu

theorem load_keeps_idle {image : Option (List Byte)} {s t : State} {r : Response} (hs : Idle s)
    (h : load image s = (t, r)) : Idle t := by
  cases image <;> cases h <;> exact hs

theorem loadState_keeps_idle {slot : Int} {s t : State} {r : Response} (hs : Idle s)
    (h : loadState slot s = (t, r)) : Idle t := by
  unfold loadState at h
  split at h <;> cases h <;> exact hs

/-- Every command keeps the machine's invariant. -/
theorem perform_keeps_machineInv {q : Params} {c : Command} {s t : State} {r : Response} (hs : MachineInv s)
    (h : perform q c s = .next (t, r)) : MachineInv t := by
  cases c with
  | load image => exact load_keeps_machineInv hs (Host.Outcome.next.inj h)
  | reset => cases h; exact resetSession_keeps_machineInv hs
  | runFrame => exact runFrame_keeps_machineInv hs h
  | setInput bitmask => cases h; exact hs
  | saveState slot => cases h; exact hs.putSlot hs.snapshot slot
  | loadState slot => exact loadState_keeps_machineInv hs (Host.Outcome.next.inj h)
  | debugRead address => cases h; exact hs
  | debugWrite address value => cases h; exact hs.writePort address value
  | readLatch => cases h; exact hs
  | readStatus => cases h; exact hs

/-- No command leaves a `run_frame` in progress or a step's result waiting. -/
theorem perform_keeps_idle {q : Params} {c : Command} {s t : State} {r : Response} (hs : Idle s)
    (h : perform q c s = .next (t, r)) : Idle t := by
  cases c with
  | load image => exact load_keeps_idle hs (Host.Outcome.next.inj h)
  | reset => cases h; exact hs
  | runFrame => exact runFrame_keeps_idle hs h
  | setInput bitmask => cases h; exact hs
  | saveState slot => cases h; exact hs
  | loadState slot => exact loadState_keeps_idle hs (Host.Outcome.next.inj h)
  | debugRead address => cases h; exact hs
  | debugWrite address value =>
    cases h
    obtain ⟨hframe, hresult⟩ := hs
    exact ⟨(s.writePort_frameRun address value).trans hframe, (s.writePort_stepResult address value).trans hresult⟩
  | readLatch => cases h; exact hs
  | readStatus => cases h; exact hs

/-! ### Runs of commands -/

/-- What every command keeps, a run of commands keeps. -/
theorem run_keeps {q : Params} {P : State → Prop}
    (hperform : ∀ c s t r, P s → perform q c s = .next (t, r) → P t)
    {cs : List Command} {s t : State} {rs : List Response} (hs : P s) (h : run q cs s = some (.next (t, rs))) : P t := by
  induction cs generalizing s rs with
  | nil =>
    cases h
    exact hs
  | cons c cs ih =>
    obtain ⟨u, x, rs', hissue, hrun, -⟩ := run_cons h
    exact ih (hperform c s u x hs (perform_of_issue hissue)) hrun

/-- Between frames the session's invariant is the machine's, with nothing in progress. -/
theorem sessionInv_between_frames_iff {q : Params} {s : State} :
    (SessionInv q s ∧ s.frameRun = none) ↔ MachineInv s ∧ Idle s := by
  constructor
  · rintro ⟨⟨hmachine, hresult, -, -⟩, hframe⟩
    exact ⟨hmachine, hframe, hresult⟩
  · rintro ⟨hmachine, hframe, hresult⟩
    refine ⟨⟨hmachine, hresult, fun _ => hframe, ?_⟩, hframe⟩
    rw [hframe]
    exact nofun

/-- Settles O59: between frames the invariant is `MachineInv` and `Idle`, which every command keeps, by induction over the
commands. -/
theorem commandsKeepInvariant : Obligations.CommandsKeepInvariant := by
  intro q cs s t rs hs hframe hrun
  obtain ⟨hmachine, hidle⟩ := sessionInv_between_frames_iff.mp ⟨hs, hframe⟩
  have hmachine' : MachineInv t := run_keeps (fun _ _ _ _ => perform_keeps_machineInv) hmachine hrun
  have hidle' : Idle t := run_keeps (fun _ _ _ _ => perform_keeps_idle) hidle hrun
  exact sessionInv_between_frames_iff.mpr ⟨hmachine', hidle'⟩

end Sys2Proof.Machine.Session
end

section
/-! PROOF. What one step does by the byte at `pc`: when it is refused, what it adds to `CYC`, what influences it; then the RAM
array and its port, the cycles of a frame, and what the moves of host and stepper keep. -/

namespace Sys2Proof.Machine

/-! ### One step by the byte at `pc` (R100, R103) -/

/-- The instruction fetched is one of the opcode at `pc` (R84, R102). -/
theorem fetch_opcode (s : State) : (fetch s).opcode = s.readByte s.pc := opcode_decodeInstr _ _

/-- The instruction fetched has an operand byte if the opcode at `pc` is 0xA9 (R81, R82). -/
theorem fetch_operandBytes (s : State) :
    (fetch s).operandBytes = if s.readByte s.pc = 0xA9#8 then [s.readByte (operandAddress s.pc)] else [] :=
  operandBytes_decodeInstr _ _

/-- A fetch reads `pc`, RAM and the image, and no other state (R58, R102). -/
theorem fetch_congr {s t : State} (hpc : s.pc = t.pc) (hread : ∀ a, s.readByte a = t.readByte a) : fetch s = fetch t := by
  simp only [fetch, hpc, hread]

/-- Everything a step can do: reach `afterExec`, or be refused because `CYC` would overflow. -/
theorem step_eq (s : State) :
    step s = if Fits (Pseudocode.cost (s.readByte s.pc)) s then .next (afterExec (fetch s) s)
      else .refused .cycleCountOverflow := by
  rw [step, exec_eq, fetch_opcode]

/-- An addition that fits does not wrap (R24). -/
theorem addCharge_toNat {cost : Nat} {s : State} (h : Fits cost s) :
    (s.cyc + BitVec.ofNat 64 (chargeOf cost s)).toNat = s.cyc.toNat + chargeOf cost s := by
  rw [BitVec.toNat_add, BitVec.toNat_ofNat, Nat.add_mod_mod, Nat.mod_eq_of_lt h]

/-- No step loads or unloads (R29). -/
theorem step_loaded {s t : State} (h : step s = .next t) : t.loaded = s.loaded := by
  rw [step_next h]
  rfl

/-- A step that answers adds to `CYC` the charge of the opcode at `pc` (R103). -/
theorem step_cyc {s t : State} (h : step s = .next t) :
    t.cyc.toNat = s.cyc.toNat + chargeOf (Pseudocode.cost (s.readByte s.pc)) s := by
  obtain ⟨hfits, rfl⟩ := exec_next h
  rw [← fetch_opcode]
  exact addCharge_toNat hfits

/-- Settles O57: a step writes neither RAM, the image nor the slots, and keeps the counters in step with the start-up flag. -/
theorem stepKeepsInvariant : Obligations.StepKeepsInvariant := fun _ _ => step_keeps_machineInv

/-- Settles O11: the two branches of `step_eq`, and `step_cyc` in the first. -/
theorem stepStopsOnlyOnOverflow : Obligations.StepStopsOnlyOnOverflow := by
  intro s
  by_cases hfits : Fits (Pseudocode.cost (s.readByte s.pc)) s
  · have hstep : step s = .next (afterExec (fetch s) s) := by rw [step_eq, if_pos hfits]
    exact .inl ⟨hfits, _, hstep, step_cyc hstep⟩
  · exact .inr ⟨Nat.le_of_not_lt hfits, by rw [step_eq, if_neg hfits]⟩

/-! ### What influences a step -/

/-- Two states with the same `pc`, the same counters and the same reads are stepped alike: the same instruction is fetched, and both
steps are refused or neither is, so only what the instruction leaves remains to be compared. -/
theorem step_of_same_reads {s u : State} (hpc : u.pc = s.pc) (hcyc : u.cyc = s.cyc)
    (hdue : u.startupPending = s.startupPending) (hread : ∀ a, u.readByte a = s.readByte a) {g : State → State}
    (hg : afterExec (fetch s) u = g (afterExec (fetch s) s)) :
    step u = andThen (step s) fun t => .next (g t) := by
  have hfits : Fits (Pseudocode.cost (s.readByte s.pc)) u ↔ Fits (Pseudocode.cost (s.readByte s.pc)) s := by
    simp only [Fits, chargeOf, hcyc, hdue]
  rw [step_eq u, step_eq s, fetch_congr hpc hread, hread, hpc, hg]
  by_cases h : Fits (Pseudocode.cost (s.readByte s.pc)) s
  · rw [if_pos (hfits.mpr h), if_pos h, andThen_next]
  · rw [if_neg (mt hfits.mp h), if_neg h, andThen_refused]

/-- Settles O22: a step reads `A`, `P`, `SP` and `BTN` only to keep them, but for `P` under 0xA9. -/
theorem inertRegisters : Obligations.InertRegisters := by
  intro s a p sp b
  refine step_of_same_reads (by rfl) (by rfl) (by rfl) (State.readByte_congr (by rfl) (by rfl)) ?_
  by_cases hop : s.readByte s.pc = 0xA9#8
  · have hbytes : (fetch s).operandBytes = [s.readByte (operandAddress s.pc)] := by rw [fetch_operandBytes, if_pos hop]
    simp only [afterExec, hbytes, if_pos hop, List.headD_cons]
    rfl
  · have hbytes : (fetch s).operandBytes = [] := by rw [fetch_operandBytes, if_neg hop]
    simp only [afterExec, hbytes, if_neg hop, List.headD_nil]
    rfl

/-- A byte of the window depends on the first 32768 bytes of the image alone (R51). -/
theorem imageByte_take {rom : List Byte} {k : Nat} (h : k < Config.romWindow) :
    imageByte (rom.take Config.romWindow) k = imageByte rom k := by
  simp only [imageByte, List.getD_eq_getElem?_getD, List.getElem?_take_of_lt h]

/-- Images that agree in the window read the same at every address (R27, R51). -/
theorem State.readByte_of_same_window (s : State) {rom : List Byte}
    (h : rom.take Config.romWindow = s.rom.take Config.romWindow) (a : Addr) :
    ({ s with rom := rom } : State).readByte a = s.readByte a := by
  by_cases hram : a.toNat < Config.ramBoundary
  · rw [State.readByte_ram _ hram, State.readByte_ram _ hram]
  · by_cases hrom : Config.romBase ≤ a.toNat
    · have hk : a.toNat - Config.romBase < Config.romWindow := by
        have := a.isLt
        simp only [Config.romBase, Config.romWindow] at *
        omega
      rw [State.readByte_window _ hrom, State.readByte_window _ hrom, ← imageByte_take hk, h, imageByte_take hk]
    · rw [State.readByte_unmapped _ hram hrom, State.readByte_unmapped _ hram hrom]

/-- Settles O23: the two states read the same at every address, and a step writes no image. -/
theorem imageTailIsInert : Obligations.ImageTailIsInert := by
  intro s rom h
  refine step_of_same_reads (by rfl) (by rfl) (by rfl) (State.readByte_of_same_window s h) ?_
  rfl

/-! ### RAM through the port, and its canonical form (R26) -/

/-- A write through the port leaves every index of RAM from 0x2000 on as it was. -/
theorem State.writePort_upper (s : State) (address value : Int) {k : Nat} (hk : Config.ramBoundary ≤ k) :
    (s.writePort address value).ram.read k = s.ram.read k := by
  rw [State.writePort, State.writeByte_eq, State.setRam_ram]
  split
  next ha => exact Memory.read_write_other _ (by omega) _
  next => rfl

/-- RAMs that agree below 0x2000 read the same at every address. -/
theorem State.readByte_of_same_lower (s : State) {m : Memory} (h : ∀ k, k < Config.ramBoundary → m.read k = s.ram.read k)
    (a : Addr) : ({ s with ram := m } : State).readByte a = s.readByte a := by
  by_cases hram : a.toNat < Config.ramBoundary
  · rw [State.readByte_ram _ hram, State.readByte_ram _ hram]
    exact h _ hram
  · by_cases hrom : Config.romBase ≤ a.toNat
    · rw [State.readByte_window _ hrom, State.readByte_window _ hrom]
    · rw [State.readByte_unmapped _ hram hrom, State.readByte_unmapped _ hram hrom]

/-- Settles O28: a port's address decodes to RAM only below 0x2000. -/
theorem upperRamIsUnreachable : Obligations.UpperRamIsUnreachable :=
  ⟨fun s address value _ hk => s.writePort_upper address value hk,
    fun s _ address h => s.readByte_of_same_lower h (portAddress address)⟩

theorem Memory.read_head (j : Nat) (v : Byte) (m : Memory) : Memory.read ((j, v) :: m) j = v := by
  rw [Memory.read, if_pos rfl]

theorem Memory.read_tail {i j : Nat} (h : i ≠ j) (v : Byte) (m : Memory) : Memory.read ((j, v) :: m) i = m.read i := by
  rw [Memory.read, if_neg h]

theorem Memory.head_lt {c : Host.Cell} {m : Memory} (h : Memory.wf (c :: m)) : ∀ d ∈ m, c.1 < d.1 :=
  (List.pairwise_cons.mp h.1).1

theorem Memory.head_ne_unlisted {c : Host.Cell} {m : Memory} (h : Memory.wf (c :: m)) : c.2 ≠ Memory.unlisted :=
  (h.2 c List.mem_cons_self).2

/-- The first listed index is the least one that reads as anything but the unlisted byte. -/
theorem Memory.head_le_of_read {c : Host.Cell} {m : Memory} (h : Memory.wf (c :: m)) {i : Nat}
    (hi : Memory.read (c :: m) i ≠ Memory.unlisted) : c.1 ≤ i := by
  by_contra hlt
  refine hi (Memory.read_of_lt fun d hd => ?_)
  rcases List.mem_cons.mp hd with rfl | hd
  · exact Nat.lt_of_not_le hlt
  · exact (Nat.lt_of_not_le hlt).trans (Memory.head_lt h d hd)

/-- A canonical list with an entry reads otherwise than the empty one. -/
theorem Memory.exists_read_ne {c : Host.Cell} {m : Memory} (h : Memory.wf (c :: m)) :
    ∃ k, Memory.read (c :: m) k ≠ Memory.read [] k :=
  ⟨c.1, by rw [Memory.read_head]; exact Memory.head_ne_unlisted h⟩

/-- Canonical lists that read the same start with the same entry. -/
theorem Memory.head_eq_of_read {c d : Host.Cell} {m n : Memory} (hm : Memory.wf (c :: m)) (hn : Memory.wf (d :: n))
    (h : ∀ k, Memory.read (c :: m) k = Memory.read (d :: n) k) : c = d := by
  have hc : Memory.read (c :: m) c.1 = c.2 := Memory.read_head c.1 c.2 m
  have hd : Memory.read (d :: n) d.1 = d.2 := Memory.read_head d.1 d.2 n
  have hindex : c.1 = d.1 := Nat.le_antisymm
    (Memory.head_le_of_read hm (by rw [h, hd]; exact Memory.head_ne_unlisted hn))
    (Memory.head_le_of_read hn (by rw [← h, hc]; exact Memory.head_ne_unlisted hm))
  exact Prod.ext hindex (by rw [← hc, ← hd, h, hindex])

/-- Behind a common first entry canonical lists that read the same have tails that do. -/
theorem Memory.tail_read_eq {c : Host.Cell} {m n : Memory} (hm : Memory.wf (c :: m)) (hn : Memory.wf (c :: n))
    (h : ∀ k, Memory.read (c :: m) k = Memory.read (c :: n) k) (k : Nat) : m.read k = n.read k := by
  by_cases hk : k = c.1
  · rw [hk, Memory.read_of_lt (Memory.head_lt hm), Memory.read_of_lt (Memory.head_lt hn)]
  · rw [← Memory.read_tail hk c.2 m, ← Memory.read_tail hk c.2 n]
    exact h k

/-- Settles O29, by induction on the first list: the first entries agree, then the tails do. -/
theorem canonicalMemory : Obligations.CanonicalMemory := by
  intro m
  induction m with
  | nil =>
    intro n _ hn h
    cases n with
    | nil => rfl
    | cons d n =>
      obtain ⟨k, hk⟩ := Memory.exists_read_ne hn
      exact absurd (h k).symm hk
  | cons c m ih =>
    intro n hm hn h
    cases n with
    | nil =>
      obtain ⟨k, hk⟩ := Memory.exists_read_ne hm
      exact absurd (h k) hk
    | cons d n =>
      obtain rfl := Memory.head_eq_of_read hm hn h
      rw [ih n (Memory.wf_tail hm) (Memory.wf_tail hn) (Memory.tail_read_eq hm hn h)]

/-! ### The cycles of a batch (R24, R101, R103) -/

/-- No row of the cost table is above 2 (R103). -/
theorem cost_le_two (op : Byte) : Pseudocode.cost op ≤ 2 := by
  unfold Pseudocode.cost
  split
  · exact Nat.le_refl 2
  · split
    · exact Nat.le_refl 2
    · split
      · exact Nat.zero_le 2
      · exact Nat.le_refl 2

/-- The start-up overhead that is due, and the cost (R101, R103). -/
theorem chargeOf_eq_overhead_add (cost : Nat) (s : State) : chargeOf cost s = chargeOf 0 s + cost := rfl

theorem overhead_le_two (s : State) : chargeOf 0 s ≤ 2 := by
  unfold chargeOf
  split
  · exact Nat.le_refl 2
  · exact Nat.zero_le 2

/-- After a step no overhead is due (R101). -/
theorem overhead_after_step {s t : State} (h : step s = .next t) : chargeOf 0 t = 0 := by
  rw [step_next h]
  rfl

end Sys2Proof.Machine

namespace Sys2Proof.Machine.Session

/-- Over a batch `CYC` never falls, and rises by at most 2 a step and the start-up overhead that is due. -/
theorem runBatch_cyc {n k : Nat} {s t : State} {b : Batch} (h : runBatch n k s = .next (t, b)) :
    s.cyc.toNat ≤ t.cyc.toNat ∧ t.cyc.toNat ≤ s.cyc.toNat + chargeOf 0 s + 2 * n := by
  induction n generalizing k s with
  | zero =>
    cases h
    omega
  | succ n ih =>
    obtain ⟨u, hstep, h⟩ := andThen_eq_next.mp h
    have hcyc := step_cyc hstep
    have hcost := cost_le_two (s.readByte s.pc)
    rw [chargeOf_eq_overhead_add] at hcyc
    split at h
    next =>
      cases h
      rw [State.setStepResult_cyc]
      omega
    next =>
      have hrest := ih h
      have hdue : chargeOf 0 (u.setStepResult none) = chargeOf 0 u := rfl
      rw [hdue, overhead_after_step hstep, State.setStepResult_cyc] at hrest
      omega

/-- Settles O46: a `run_frame` adds to `CYC` what its batch adds, or nothing. -/
theorem frameCycles : Obligations.FrameCycles := by
  intro q s t r h
  rcases runFrame_cases h with ⟨-, rfl, -⟩ | ⟨-, u, b, hbatch, rfl, -⟩
  · omega
  · have hcyc := runBatch_cyc hbatch
    have hdue := overhead_le_two s
    rw [State.setFrameCount_cyc]
    omega

/-! ### What each move keeps (R60, R61, R152, R153) -/

/-- The one command with a move during a `run_frame` is `set_input` (R160). -/
theorem Command.eq_setInput_of_duringFrame {c : Command} (h : c.duringFrame = true) : ∃ bitmask, c = .setInput bitmask := by
  cases c with
  | setInput bitmask => exact ⟨bitmask, rfl⟩
  | _ => cases h

/-- The inversion lemma of the host's move: between frames `run_frame` begins or another command is performed, and at any time the
latch may be written. -/
theorem move_host_cases {q : Params} {c : Command} {s : State} {o : Answer} (h : move q (.host c) s = some o) :
    (s.frameRun = none ∧ c = .runFrame ∧ o = .next (beginFrame s)) ∨
    (s.frameRun = none ∧ c ≠ .runFrame ∧ o = perform q c s) ∨
    ∃ bitmask, c = .setInput bitmask ∧ o = .next (s.setLatch bitmask, .done) := by
  simp only [move] at h
  split at h
  next hmove =>
    have ho := (Option.some.inj h).symm
    rcases Bool.or_eq_true_iff.mp hmove with hframe | hduring
    · have hframe := Option.isNone_iff_eq_none.mp hframe
      by_cases hc : c = .runFrame
      · exact .inl ⟨hframe, hc, by rw [ho, if_pos hc]⟩
      · exact .inr (.inl ⟨hframe, hc, by rw [ho, if_neg hc]⟩)
    · obtain ⟨bitmask, rfl⟩ := Command.eq_setInput_of_duringFrame hduring
      exact .inr (.inr ⟨bitmask, rfl, by rw [ho, if_neg nofun, perform]⟩)
  next => cases h

/-- A command performed between frames keeps the session's invariant. -/
theorem perform_keeps_sessionInv {q : Params} {c : Command} {s t : State} {r : Response} (hs : SessionInv q s)
    (hframe : s.frameRun = none) (h : perform q c s = .next (t, r)) : SessionInv q t := by
  obtain ⟨hmachine, hidle⟩ := sessionInv_between_frames_iff.mp ⟨hs, hframe⟩
  exact (sessionInv_between_frames_iff.mpr ⟨perform_keeps_machineInv hmachine h, perform_keeps_idle hidle h⟩).1

/-- A `run_frame` begins within its budget, with nothing halted, and in a loaded session only. -/
theorem beginFrame_keeps_sessionInv {q : Params} {s t : State} {r : Response} (hs : SessionInv q s)
    (h : beginFrame s = (t, r)) : SessionInv q t := by
  unfold beginFrame at h
  split at h
  next hloaded =>
    cases h
    obtain ⟨hmachine, hresult, -, -⟩ := hs
    refine ⟨hmachine, hresult, fun hnot => absurd (hloaded.symm.trans hnot) nofun, fun r hr => ?_⟩
    cases hr
    exact ⟨Nat.zero_le _, .inl rfl⟩
  next =>
    cases h
    exact hs

/-- A step noted within the budget leaves a `run_frame` that R152 can reach, a halt being that of the step just made. -/
theorem noteStep_frameRun_wf {q : Params} {r : FrameRun} (hr : r.taken < q.stepsPerFrame) (u : State) :
    ∀ r' ∈ (noteStep r u).frameRun, r'.wf q := by
  intro r' hr'
  cases hr'
  refine ⟨hr, ?_⟩
  split
  next => exact .inr ⟨rfl, Nat.succ_pos r.taken⟩
  next => exact .inl rfl

/-- The stepper's move is a step, noted, or the end of the `run_frame`. -/
theorem stepperMove_keeps_sessionInv {q : Params} {r : FrameRun} {s t : State} {x : Response} (hs : SessionInv q s)
    (hframe : s.frameRun = some r) (h : stepperMove q r s = .next (t, x)) : SessionInv q t := by
  obtain ⟨hmachine, hresult, hunloaded, -⟩ := hs
  rcases stepperMove_cases h with ⟨-, hbudget, u, hstep, rfl, -⟩ | ⟨-, hend⟩
  · have hu : MachineInv u := step_keeps_machineInv hmachine hstep
    refine ⟨hu, rfl, fun hnot => ?_, noteStep_frameRun_wf hbudget u⟩
    have hnone := hunloaded ((step_loaded hstep).symm.trans hnot)
    cases hframe.symm.trans hnone
  · cases hend
    exact ⟨hmachine, hresult, fun _ => rfl, nofun⟩

/-- Settles O58: a move begins a `run_frame`, performs a command between frames, writes or reads the latch, or is the stepper's. -/
theorem movesKeepInvariant : Obligations.MovesKeepInvariant := by
  intro q m s t r hs h
  cases m with
  | host c =>
    rcases move_host_cases h with ⟨-, -, ho⟩ | ⟨hframe, -, ho⟩ | ⟨bitmask, -, ho⟩
    · exact beginFrame_keeps_sessionInv hs (Host.Outcome.next.inj ho).symm
    · exact perform_keeps_sessionInv hs hframe ho.symm
    · cases ho
      exact hs
  | stepper =>
    simp only [move] at h
    split at h
    next => cases h
    next r hframe => exact stepperMove_keeps_sessionInv hs hframe (Option.some.inj h)
  | sampleLatch =>
    cases h
    exact hs

end Sys2Proof.Machine.Session
end

section
/-! PROOF. Reads after writes through the address decoder and its ports; what the host's commands do to memory and to the image;
who has a move. -/

namespace Sys2Proof.Machine

/-! ### Reads and writes by region (R51, R52, R53) -/

/-- Reads outside RAM do not depend on RAM. -/
theorem State.readByte_setRam_outside (s : State) (m : Memory) {a : Addr} (h : ¬ a.toNat < Config.ramBoundary) :
    (s.setRam m).readByte a = s.readByte a := by
  by_cases hrom : Config.romBase ≤ a.toNat
  · rw [State.readByte_window _ hrom, State.readByte_window _ hrom, State.setRam_rom]
  · rw [State.readByte_unmapped _ h hrom, State.readByte_unmapped _ h hrom]

/-- In RAM the byte written is the byte read back. -/
theorem State.readByte_writeByte_same {s : State} (hw : s.ram.wf) {a : Addr} (h : a.toNat < Config.ramBoundary) (v : Byte) :
    (s.writeByte a v).readByte a = v := by
  rw [State.readByte_ram _ h, State.writeByte_eq, if_pos h, State.setRam_ram, Memory.read_write_same hw]

/-- At every other address a write leaves what is read. -/
theorem State.readByte_writeByte_other (s : State) {a o : Addr} (hne : o ≠ a) (v : Byte) :
    (s.writeByte a v).readByte o = s.readByte o := by
  by_cases ha : a.toNat < Config.ramBoundary
  · rw [State.writeByte_eq, if_pos ha]
    by_cases ho : o.toNat < Config.ramBoundary
    · rw [State.readByte_ram _ ho, State.readByte_ram _ ho, State.setRam_ram]
      exact Memory.read_write_other _ (mt BitVec.eq_of_toNat_eq hne) v
    · exact s.readByte_setRam_outside _ ho
  · rw [State.writeByte_outside s ha]

/-- In RAM a write changes the index that is the address and no other. -/
theorem State.ram_read_writeByte_other (s : State) (a : Addr) {k : Nat} (hk : k ≠ a.toNat) (v : Byte) :
    (s.writeByte a v).ram.read k = s.ram.read k := by
  rw [State.writeByte_eq, State.setRam_ram]
  split
  next => exact Memory.read_write_other _ hk v
  next => rfl

@[simp] theorem State.writeByte_pc (s : State) (a : Addr) (v : Byte) : (s.writeByte a v).pc = s.pc := by
  rw [State.writeByte_eq, State.setRam_pc]

/-- In the loaded part of the window a read returns the byte of the image. -/
theorem State.readByte_in_image (s : State) {a : Addr} (h : Config.romBase ≤ a.toNat)
    (hlen : a.toNat - Config.romBase < s.rom.length) : s.rom[a.toNat - Config.romBase]? = some (s.readByte a) := by
  rw [State.readByte_window s h, imageByte, List.getD_eq_getElem _ _ hlen, List.getElem?_eq_getElem hlen]

/-- Beyond the end of the image a read returns 0x00. -/
theorem State.readByte_beyond_image (s : State) {a : Addr} (h : Config.romBase + s.rom.length ≤ a.toNat) :
    s.readByte a = 0x00#8 := by
  rw [State.readByte_window s (by omega), imageByte, List.getD_eq_default _ _ (by omega)]

/-- Settles O27: the address may lie in RAM or outside, where the write is discarded. -/
theorem writeFrame : Obligations.WriteFrame := fun s _ _ v hne => s.readByte_writeByte_other hne v

/-- Settles O24: the rows of the table one by one, then the cover by arithmetic. An address has 16 bits, so the end of the image is
met in the last row even where the image is longer than the window. -/
theorem decoderRegions : Obligations.DecoderRegions := by
  intro s address v hw
  have houtside : 0x2000 ≤ address.toNat → s.writeByte address v = s :=
    fun h => s.writeByte_outside (Nat.not_lt_of_le h) v
  have hbound := address.isLt
  refine ⟨fun hram => ⟨s.readByte_ram hram, State.readByte_writeByte_same hw hram v, ?_, fun k hk => ?_⟩,
    fun hlow hhigh => ⟨?_, houtside hlow⟩, fun hlow hhigh => ⟨?_, houtside (by omega)⟩,
    fun hbeyond => ⟨?_, houtside (by omega)⟩, by omega⟩
  · rw [State.writeByte_eq]
    rfl
  · exact s.ram_read_writeByte_other address hk v
  · exact s.readByte_unmapped (Nat.not_lt_of_le hlow) (Nat.not_le_of_lt hhigh)
  · exact s.readByte_in_image hlow (by rw [Config.romBase]; omega)
  · exact s.readByte_beyond_image (by rw [Config.romBase]; omega)

/-! ### The ports (R50, R53, R55, R67) -/

/-- The port reduces an address modulo 2^16 (R55). -/
theorem portAddress_toNat (a : Int) : ((portAddress a).toNat : Int) = a % 65536 := by
  rw [portAddress, BitVec.toNat_ofInt]
  omega

/-- The port reduces a value modulo 256 (R53). -/
theorem portByte_toNat (v : Int) : ((portByte v).toNat : Int) = v % 256 := by
  rw [portByte, BitVec.toNat_ofInt]
  omega

/-- The size of RAM is a multiple of 2^16, so the port takes addresses that far apart for the same one (R67). -/
theorem portAddress_add_ramSize_mul (a k : Int) : portAddress (a + 131072 * k) = portAddress a := by
  apply BitVec.eq_of_toNat_eq
  have h1 := portAddress_toNat (a + 131072 * k)
  have h2 := portAddress_toNat a
  omega

/-- Ports that take two addresses for the same one, in RAM, read at one what was written at the other. -/
theorem State.readPort_writePort {s : State} (hw : s.ram.wf) {a b : Int} (hab : portAddress a = portAddress b)
    (h : (portAddress b).toNat < Config.ramBoundary) (v : Int) : (s.writePort a v).readPort b = portByte v := by
  rw [State.writePort, State.readPort, hab]
  exact State.readByte_writeByte_same hw h (portByte v)

/-- A write through the port outside RAM is discarded (R53). -/
theorem State.writePort_outside (s : State) {a : Int} (h : 0x2000 ≤ a % 65536) (v : Int) : s.writePort a v = s := by
  have ha := portAddress_toNat a
  exact s.writeByte_outside (by rw [Config.ramBoundary]; omega) (portByte v)

/-- Settles O25: the port takes `a` and `a + 131072 * k` for the same address, which lies in RAM; the address of the second law
lies beyond the image. -/
theorem wraparoundAndBounds : Obligations.WraparoundAndBounds := by
  constructor
  · intro s a v k hw h0 h1
    have ha := portAddress_toNat a
    have hram : (portAddress a).toNat < Config.ramBoundary := by
      rw [Config.ramBoundary]
      omega
    have hshift := portAddress_add_ramSize_mul a k
    refine ⟨?_, ?_, ?_⟩
    · rw [State.readPort_writePort hw rfl hram, portByte_toNat]
    · rw [State.readPort_writePort hw hshift hram, portByte_toNat]
    · rw [State.readPort_writePort hw hshift.symm (hshift ▸ hram), portByte_toNat]
  · intro s a h1 h2
    have ha := portAddress_toNat a
    exact s.readByte_beyond_image (by rw [Config.romBase]; omega)

/-! ### A write done twice (R58) -/

/-- Canonical RAMs are equal where they read the same, and a second write of a byte changes no read. -/
theorem Memory.write_write_same {m : Memory} (hw : m.wf) {k : Nat} (hk : k < Config.ramSize) (v : Byte) :
    (m.write k v).write k v = m.write k v := by
  have hw' := Memory.write_wf hw hk v
  refine canonicalMemory _ _ (Memory.write_wf hw' hk v) hw' fun j => ?_
  by_cases hj : j = k
  · rw [hj, Memory.read_write_same hw', Memory.read_write_same hw]
  · exact Memory.read_write_other _ hj v

theorem State.writeByte_writeByte_same {s : State} (hw : s.ram.wf) (a : Addr) (v : Byte) :
    (s.writeByte a v).writeByte a v = s.writeByte a v := by
  by_cases h : a.toNat < Config.ramBoundary
  · have hk : a.toNat < Config.ramSize := h.trans (by decide)
    simp only [State.writeByte_eq, if_pos h, State.setRam_ram, Memory.write_write_same hw hk]
    rfl
  · simp only [State.writeByte_outside _ h]

/-- Settles O26: the answers are those of `perform`; a repeated write is a repeated write of the byte the address decodes to. -/
theorem hostReadsAndWrites : Obligations.HostReadsAndWrites :=
  ⟨fun _ s _ value => ⟨rfl, rfl, rfl, fun h => s.writePort_outside h value⟩,
    fun _ address value hw => State.writeByte_writeByte_same hw (portAddress address) (portByte value)⟩

/-! ### Code written to RAM (R62, R65) -/

/-- Settles O30: the second write leaves the opcode at `pc`, and neither write moves `pc`, so the fetch reads the two bytes. -/
theorem writtenCodeRuns : Obligations.WrittenCodeRuns := by
  intro s op operand hw hpc
  have hnext : (s.pc + 1#16).toNat = s.pc.toNat + 1 := by
    rw [BitVec.toNat_add, BitVec.toNat_ofNat]
    omega
  have hne : s.pc ≠ s.pc + 1#16 := fun h => by
    have := congrArg BitVec.toNat h
    omega
  have hopcode : ((s.writeByte s.pc op).writeByte (s.pc + 1#16) operand).readByte s.pc = op := by
    rw [State.readByte_writeByte_other _ hne,
      State.readByte_writeByte_same hw (show s.pc.toNat < Config.ramBoundary from Nat.lt_of_succ_lt hpc)]
  have hoperand : ((s.writeByte s.pc op).writeByte (s.pc + 1#16) operand).readByte (s.pc + 1#16) = operand :=
    State.readByte_writeByte_same (State.writeByte_wf hw s.pc op) (hnext ▸ hpc) operand
  rw [step, fetch, State.writeByte_pc, State.writeByte_pc, operandAddress, hopcode, hoperand]

/-! ### The image (R54) -/

/-- No step writes the image. -/
theorem step_rom {s t : State} (h : step s = .next t) : t.rom = s.rom := by
  rw [step_next h]
  rfl

end Sys2Proof.Machine

namespace Sys2Proof.Machine.Session

theorem runFrame_rom {q : Params} {s t : State} {r : Response} (h : runFrame q s = .next (t, r)) : t.rom = s.rom := by
  rcases runFrame_cases h with ⟨-, rfl, -⟩ | ⟨-, u, b, hbatch, rfl, -⟩
  · rfl
  · have hu : u.rom = s.rom :=
      runBatch_keeps (P := fun u => u.rom = s.rom) (fun _ _ hu hstep => (step_rom hstep).trans hu) rfl hbatch
    exact hu

theorem loadState_rom {slot : Int} {s t : State} {r : Response} (h : loadState slot s = (t, r)) : t.rom = s.rom := by
  unfold loadState at h
  split at h <;> cases h <;> rfl

/-- No command but `load` writes the image. -/
theorem perform_rom {q : Params} {c : Command} {s t : State} {r : Response} (hc : ∀ image, c ≠ .load image)
    (h : perform q c s = .next (t, r)) : t.rom = s.rom := by
  cases c with
  | load image => exact absurd rfl (hc image)
  | runFrame => exact runFrame_rom h
  | loadState slot => exact loadState_rom (Host.Outcome.next.inj h)
  | debugWrite address value =>
    cases h
    rw [State.writePort, State.writeByte_eq, State.setRam_rom]
  | reset | setInput | saveState | debugRead | readLatch | readStatus => cases h; rfl

/-- Settles O40: the window shows the image that is in the state, `load` puts it there, and no other command does. -/
theorem loadReplacesImage : Obligations.LoadReplacesImage := by
  refine ⟨fun q s image => ⟨_, rfl, rfl, fun k hk => ?_⟩, fun _ _ => rfl, fun _ _ _ _ _ => perform_rom⟩
  have haddress : (BitVec.ofNat 16 (0x8000 + k)).toNat = Config.romBase + k := by
    rw [BitVec.toNat_ofNat, Config.romBase]
    exact Nat.mod_eq_of_lt (by omega)
  rw [State.readByte_window _ (by omega), haddress, Nat.add_sub_cancel_left]
  rfl

/-! ### Who has a move (R60, R160) -/

theorem hasMove_between_frames {s : State} (h : s.frameRun = none) (c : Command) : hasMove c s = true := by
  rw [hasMove, h]
  rfl

theorem hasMove_during_frame {s : State} {r : FrameRun} (h : s.frameRun = some r) (c : Command) :
    hasMove c s = c.duringFrame := by
  rw [hasMove, h]
  rfl

/-- Settles O50: `hasMove` decides, and during a `run_frame` it holds of `set_input` alone. -/
theorem hostIsSerialised : Obligations.HostIsSerialised := by
  constructor
  · intro q c s r hframe hc
    have hnot : ¬ hasMove c s = true := by
      rw [hasMove_during_frame hframe]
      intro hduring
      obtain ⟨m, rfl⟩ := Command.eq_setInput_of_duringFrame hduring
      exact hc m rfl
    exact ⟨by rw [move, if_neg hnot], by rw [issue, if_neg hnot]⟩
  · intro q s hframe
    refine ⟨?_, fun c => ⟨perform q c s, by rw [issue, if_pos (hasMove_between_frames hframe c)]⟩⟩
    simp only [move, hframe]

end Sys2Proof.Machine.Session
end

section
/-! PROOF. Decoding and encoding are inverse to each other; the opcode byte tells the length and names the instruction; what every
opcode byte executes; the bytes of assembler lines; a fetch from an unbacked address. -/

namespace Sys2Proof.Machine

/-! ### Opcode byte and operand byte name the instruction (R81, R82, R84, R85) -/

/-- The facts of Laws/PerInstr.lean for every instruction: one constructor has an operand, which the opcode map passes on. -/
theorem encoding_statement (i : Instr) : Laws.Encoding.Statement i := by
  cases i with
  | ldaImm imm8 => exact Laws.Encoding.ldaImm imm8
  | _ => exact ⟨rfl, rfl⟩

/-- The opcode map sends the opcode byte of an instruction, with its operand byte behind it, back to the instruction (R84). -/
theorem decodeInstr_opcode (i : Instr) : decodeInstr i.opcode (i.operandBytes.headD 0x00#8) = i :=
  (encoding_statement i).2

/-- Settles O4: the opcode map sends opcode byte and operand byte back to the instruction. -/
theorem rowsAreDistinct : Obligations.RowsAreDistinct := by
  intro i j hopcode hoperand
  rw [← decodeInstr_opcode i, ← decodeInstr_opcode j, hopcode, hoperand]

/-- An instruction is `LDA` with its operand, or its opcode byte is its whole encoding (R81, R82). -/
theorem ldaImm_or_implied (i : Instr) : (∃ v, i = .ldaImm v) ∨ (i.opcode ≠ 0xA9#8 ∧ i.operandBytes = []) := by
  rcases instr_shape i with h | rfl | rfl | h
  · exact .inl h
  · exact .inr ⟨by decide, rfl⟩
  · exact .inr ⟨by decide, rfl⟩
  · exact .inr ⟨(unassigned_iff.mp h).2.1, operandBytes_unassigned h⟩

/-- Every opcode but 0xA9 decodes without looking at the byte behind it (R81). -/
theorem decodeInstr_implied {op : Byte} (h : op ≠ 0xA9#8) (v w : Byte) : decodeInstr op v = decodeInstr op w := by
  apply rowsAreDistinct
  · rw [opcode_decodeInstr, opcode_decodeInstr]
  · rw [operandBytes_decodeInstr, operandBytes_decodeInstr, if_neg h, if_neg h]

/-! ### The decoder on a list of bytes (R80, R87) -/

theorem lengthOf_ne_two {op : Byte} (h : op ≠ 0xA9#8) : ¬ lengthOf op = 2 := by
  rw [lengthOf, if_neg h]
  decide

/-- The decoder takes two bytes for `LDA` (R82). -/
theorem decode_ldaImm (v : Byte) (rest : List Byte) : decode (0xA9#8 :: v :: rest) = .ok (.ldaImm v, rest) := rfl

/-- The decoder takes one byte for every other opcode (R81). -/
theorem decode_implied {op : Byte} (h : op ≠ 0xA9#8) (rest : List Byte) :
    decode (op :: rest) = .ok (decodeInstr op 0x00#8, rest) := by
  cases rest with
  | nil => rw [decode, if_neg (lengthOf_ne_two h)]
  | cons v rest => rw [decode, if_neg (lengthOf_ne_two h), decodeInstr_implied h]

/-- Settles O2: `LDA` is decoded from two bytes, every other instruction from its opcode byte. -/
theorem decodeEncode : Obligations.DecodeEncode := by
  intro i rest _
  rcases ldaImm_or_implied i with ⟨v, rfl⟩ | ⟨hopcode, hoperand⟩
  · exact decode_ldaImm v rest
  · have hi := decodeInstr_opcode i
    rw [hoperand, List.headD_nil] at hi
    rw [encode, hoperand, List.singleton_append, decode_implied hopcode, hi]

/-- The encoding of what the opcode map gives is the opcode byte, and behind 0xA9 the operand byte (R81, R82). -/
theorem encode_decodeInstr (op operand : Byte) :
    encode (decodeInstr op operand) = op :: if op = 0xA9#8 then [operand] else [] := by
  rw [encode, opcode_decodeInstr, operandBytes_decodeInstr]

/-- Settles O3: under 0xA9 the decoder read an operand byte too, under every other opcode that byte alone. -/
theorem encodeDecode : Obligations.EncodeDecode := by
  intro bytes rest i h
  cases bytes with
  | nil => cases h
  | cons op tail =>
    by_cases hop : op = 0xA9#8
    · subst hop
      cases tail with
      | nil => cases h
      | cons v tail =>
        cases (decode_ldaImm v tail).symm.trans h
        rfl
    · cases (decode_implied hop tail).symm.trans h
      rw [encode_decodeInstr, if_neg hop]
      rfl

/-- Settles O6: the encoding is the opcode byte and the operand bytes, and the opcode byte announces as many. -/
theorem lengthFromOpcode : Obligations.LengthFromOpcode := fun i =>
  ⟨Nat.add_comm i.operandBytes.length 1, (encoding_statement i).1.symm⟩

/-- Settles O1: `LDA` has an operand byte behind it; the other words are read from the opcode map. -/
theorem sampleWordsDecode : Obligations.SampleWordsDecode :=
  ⟨decode_ldaImm 0x42 [], rfl, rfl, rfl, rfl, rfl⟩

/-! ### Every opcode byte executes (R86, R116) -/

/-- Four cycles of room are enough for any instruction and the start-up overhead. -/
theorem fits_of_room {s : State} (h : s.cyc.toNat + 4 < 2 ^ 64) (op : Byte) : Fits (Pseudocode.cost op) s := by
  have hcost := cost_le_two op
  have hoverhead := overhead_le_two s
  rw [Fits, chargeOf_eq_overhead_add]
  omega

/-- The state an unassigned opcode leaves (R116). -/
theorem afterExec_unassigned {i : Instr} (h : i.unassigned = true) (s : State) :
    afterExec i s =
      { s with pc := s.pc + 1#16, cyc := s.cyc + BitVec.ofNat 64 (chargeOf Config.costMin s),
               startupPending := false, stepResult := some .continued } := by
  simp only [afterExec, Instr.length, operandBytes_unassigned h, cost_unassigned h, if_neg (unassigned_iff.mp h).1]
  rfl

/-- An unassigned opcode reaches its next state when `COST_MIN` fits (R116). -/
theorem exec_unassigned_of_fits {i : Instr} (h : i.unassigned = true) {s : State} (hfits : Fits Config.costMin s) :
    exec i s = .next (afterExec i s) := by
  rw [exec_eq, cost_unassigned h, if_pos hfits]

/-- Settles O5: the instruction is the one the opcode map gives, and it needs at most 4 cycles of room. -/
theorem everyByteExecutes : Obligations.EveryByteExecutes := by
  intro op operand rest
  have hopcode := opcode_decodeInstr op operand
  refine ⟨decodeInstr op operand, if lengthOf op = 2 then rest else operand :: rest, rfl, hopcode, rfl,
    fun s hroom => ⟨_, by rw [exec_eq, if_pos (fits_of_room hroom _)]⟩, ?_, fun h0 h1 h2 => ?_⟩
  · rintro rfl
    rfl
  · have hun : (decodeInstr op operand).unassigned = true := unassigned_iff.mpr (hopcode.symm ▸ ⟨h0, h1, h2⟩)
    exact ⟨if_neg (lengthOf_ne_two h1),
      fun s hfits => by rw [exec_unassigned_of_fits hun hfits, afterExec_unassigned hun]⟩

/-! ### Assembler lines (R89, R90) -/

/-- A number of two hexadecimal digits is the byte it is written as. -/
theorem toNat_of_isByteValue {n : Nat} (h : isByteValue n = true) : (BitVec.ofNat 8 n).toNat = n :=
  Nat.mod_eq_of_lt (of_decide_eq_true h)

theorem isAssignedOpcode_toNat (op : Byte) :
    isAssignedOpcode op.toNat = false ↔ op ≠ 0x00#8 ∧ op ≠ 0xA9#8 ∧ op ≠ 0xEA#8 := by
  simp only [isAssignedOpcode, Bool.or_eq_false_iff, beq_eq_false_iff_ne, ne_eq, BitVec.toNat_eq, and_assoc]
  rfl

/-- A well-formed `UND $hh` is the encoding of the unassigned instruction of opcode `hh`. -/
theorem exists_encode_eq_und_bytes {hh : Nat} (h : (AsmLine.und hh).wellFormed = true) :
    ∃ i : Instr, i.unassigned = true ∧ i.opcode.toNat = hh ∧ encode i = (AsmLine.und hh).bytes := by
  obtain ⟨hbyte, hfree⟩ := Bool.and_eq_true_iff.mp h
  have htoNat := toNat_of_isByteValue hbyte
  have hne : BitVec.ofNat 8 hh ≠ 0x00#8 ∧ BitVec.ofNat 8 hh ≠ 0xA9#8 ∧ BitVec.ofNat 8 hh ≠ 0xEA#8 := by
    rw [← isAssignedOpcode_toNat, htoNat]
    exact (Bool.not_eq_true' _).mp hfree
  refine ⟨decodeInstr (BitVec.ofNat 8 hh) 0x00#8, ?_, ?_, ?_⟩
  · rwa [unassigned_iff, opcode_decodeInstr]
  · rw [opcode_decodeInstr, htoNat]
  · rw [encode_decodeInstr, if_neg hne.2.1, AsmLine.bytes]

theorem data_bytes_toNat {hhs : List Nat} (h : (AsmLine.data hhs).wellFormed = true) :
    (AsmLine.data hhs).bytes.map BitVec.toNat = hhs := by
  have hbytes : ∀ n ∈ hhs, isByteValue n = true := List.all_eq_true.mp h
  rw [AsmLine.bytes, List.map_map]
  exact (List.map_congr_left fun n hn => toNat_of_isByteValue (hbytes n hn)).trans (List.map_id hhs)

/-- A line stands for as many bytes as its size says (R89). -/
theorem asmLine_bytes_length (line : AsmLine) : line.bytes.length = line.size := by
  cases line with
  | data hhs => exact List.length_map _
  | _ => rfl

/-- Settles O7: the bytes of an instruction line are an encoding, which the decoder gives back. -/
theorem assemblerLines : Obligations.AssemblerLines := by
  refine ⟨fun n rest hn => ⟨decodeEncode _ rest rfl, toNat_of_isByteValue hn⟩, fun hh rest h => ?_,
    fun rest => ⟨decodeEncode _ rest rfl, decodeEncode _ rest rfl⟩, fun _ => data_bytes_toNat, fun _ _ => ⟨rfl, rfl⟩,
    asmLine_bytes_length⟩
  obtain ⟨i, hun, hopcode, hbytes⟩ := exists_encode_eq_und_bytes h
  exact ⟨i, hun, hopcode, hbytes ▸ decodeEncode i rest rfl⟩

/-! ### A fetch from an unbacked address (R51, R87, R120) -/

/-- The unmapped region and the window beyond the image read as 0x00 (R51). -/
theorem State.readByte_unbacked (s : State) {a : Addr}
    (h : (0x2000 ≤ a.toNat ∧ a.toNat < 0x8000) ∨ 0x8000 + s.rom.length ≤ a.toNat) : s.readByte a = 0x00#8 := by
  rcases h with ⟨hlow, hhigh⟩ | hbeyond
  · exact s.readByte_unmapped (Nat.not_lt_of_le hlow) (Nat.not_le_of_lt hhigh)
  · exact s.readByte_beyond_image hbeyond

/-- Settles O15: the byte at `pc` is 0x00, so the instruction is `BRK`. -/
theorem unbackedFetchHalts : Obligations.UnbackedFetchHalts := by
  intro s hpc hfits
  have hfetch : fetch s = .brk := by rw [fetch, s.readByte_unbacked hpc]; rfl
  have hstep : step s = .next (afterExec .brk s) := by
    rw [step, hfetch, exec_eq]
    exact if_pos hfits
  exact ⟨_, hstep, rfl, rfl⟩

end Sys2Proof.Machine
end

section
/-! PROOF. The step cycle: what the byte at `pc` makes a step fetch, that the step is the one of the spec's pseudocode, what the
start-up overhead changes, where `pc` goes, where `LDA` finds its operand; and the state no program writes. -/

namespace Sys2Proof.Machine

/-! ### Dispatch (R84, R102) -/

/-- The opcode 0xA9 fetches `LDA` with the byte behind it (R82, R102). -/
theorem fetch_of_ldaImm {s : State} (h : s.readByte s.pc = 0xA9#8) : fetch s = .ldaImm (s.readByte (s.pc + 1#16)) := by
  rw [fetch, h]
  rfl

/-- Under every opcode but 0xA9 the byte at `pc` alone says what is fetched (R102). -/
theorem fetch_of_implied {s : State} (h : s.readByte s.pc ≠ 0xA9#8) : fetch s = decodeInstr (s.readByte s.pc) 0x00#8 :=
  decodeInstr_implied h _ _

/-- Settles O8: the decoder gives what the opcode map gives for the two bytes, and that is what is fetched. -/
theorem stepRunsDecodedInstruction : Obligations.StepRunsDecodedInstruction := by
  intro s i rest hdecode _
  have hfetch : fetch s = i := congrArg Prod.fst (Except.ok.inj hdecode)
  rw [step, hfetch]

/-- Settles O9: the four cases by the byte at `pc`, and under every byte but 0xA9 no other byte is looked at. -/
theorem dispatchByOpcode : Obligations.DispatchByOpcode := by
  refine ⟨fun s => ⟨rfl, fetch_of_ldaImm, fun hnop => ?_, fun hbrk => ?_, fun hlda hnop hbrk => ?_⟩,
    fun s t hst hlda => ?_⟩
  · rw [fetch, hnop]
    rfl
  · rw [fetch, hbrk]
    rfl
  · have hopcode := fetch_opcode s
    exact ⟨unassigned_iff.mpr (hopcode.symm ▸ ⟨hbrk, hlda, hnop⟩), hopcode⟩
  · rw [fetch_of_implied hlda, fetch_of_implied (hst ▸ hlda), hst]

/-! ### The step of the spec's pseudocode (R100 to R104) -/

/-- What follows an operation matters only for the next state it answers. -/
theorem andThen_congr {α β : Type} {o : Host.Outcome α Fault Refusal} {f g : α → Host.Outcome β Fault Refusal}
    (h : ∀ x, o = .next x → f x = g x) : andThen o f = andThen o g := by
  cases o with
  | next x => exact h x rfl
  | fault r => rfl
  | refused r => rfl

/-- The start-up charge leaves `pc` and every byte as they were (R101). -/
theorem chargeStartup_keeps_fetch {s u : State} (h : chargeStartup s = .next u) :
    u.pc = s.pc ∧ ∀ a, u.readByte a = s.readByte a := by
  unfold chargeStartup at h
  split at h
  · obtain ⟨v, hv, hu⟩ := andThen_eq_next.mp h
    unfold addCycles at hv
    split at hv
    · cases hv
      cases hu
      exact ⟨rfl, State.readByte_congr rfl rfl⟩
    · cases hv
  · cases h
    exact ⟨rfl, fun _ => rfl⟩

namespace Pseudocode

/-- Stage 6 reports the outcome after the cost is added; reporting it before gives the same (R24, R100). -/
theorem addCycles_stage6 (n : Nat) (op : Byte) (s : State) :
    andThen (addCycles n s) (fun t => .next (stage6 op t)) = addCycles n (stage6 op s) := by
  unfold addCycles
  by_cases hroom : s.cyc.toNat + n < 2 ^ 64
  · rw [if_pos hroom, if_pos (show (stage6 op s).cyc.toNat + n < 2 ^ 64 from hroom)]
    rfl
  · rw [if_neg hroom, if_neg (show ¬ (stage6 op s).cyc.toNat + n < 2 ^ 64 from hroom)]
    rfl

/-- The pseudocode's step in the shape every meaning has: stages 4 and 6 of the opcode at `pc` are its effect. -/
theorem step_eq_instructionCycle (s : State) :
    step s = instructionCycle (cost (s.readByte s.pc))
      (fun u => stage6 (s.readByte s.pc) (stage4 (s.readByte s.pc) u)) s := by
  refine andThen_congr (o := chargeStartup s) fun u hu => ?_
  obtain ⟨hpc, hread⟩ := chargeStartup_keeps_fetch hu
  have hop : u.readByte u.pc = s.readByte s.pc := by rw [hread, hpc]
  rw [hop]
  exact addCycles_stage6 _ _ _

/-- Stages 4 and 6 neither read nor write `CYC`. -/
theorem stages_setCyc (op : Byte) (s : State) (c : CycleCount) :
    stage6 op (stage4 op (s.setCyc c)) = (stage6 op (stage4 op s)).setCyc c := by
  unfold stage4
  by_cases hop : op = 0xA9#8
  · rw [if_pos hop, if_pos hop]
    rfl
  · rw [if_neg hop, if_neg hop]
    rfl

/-- Stages 3, 4 and 6, with the start-up charge and the cost made, leave the state that the fetched instruction leaves. -/
theorem stages_eq_afterExec (s : State) :
    (stage6 (s.readByte s.pc) (stage4 (s.readByte s.pc) (s.setStartupPending false).advancePc)).setCyc
      (s.cyc + BitVec.ofNat 64 (chargeOf (cost (s.readByte s.pc)) s)) = afterExec (fetch s) s := by
  have hbytes := fetch_operandBytes s
  by_cases hop : s.readByte s.pc = 0xA9#8
  · have hpc : s.pc + 1#16 + 1#16 = s.pc + BitVec.ofNat 16 2 := BitVec.add_assoc _ _ _
    rw [if_pos hop] at hbytes
    simp only [stage4, if_pos hop, afterExec, Instr.length, hbytes, fetch_opcode]
    exact State.ext_fields hpc rfl rfl rfl rfl rfl rfl rfl rfl rfl rfl rfl rfl rfl
  · rw [if_neg hop] at hbytes
    simp only [stage4, if_neg hop, afterExec, Instr.length, hbytes, fetch_opcode]
    rfl

end Pseudocode

/-- Settles O10: both steps reach `afterExec` of what is fetched, or are refused, under one condition. -/
theorem stepMatchesPseudocode : Obligations.StepMatchesPseudocode := by
  intro s
  rw [step_eq, Pseudocode.step_eq_instructionCycle, instructionCycle_eq s (Pseudocode.stages_setCyc _),
    Pseudocode.stages_eq_afterExec]

/-! ### The start-up overhead (R25, R101) -/

/-- An instruction leaves the same with the overhead due as without it, but for `CYC`. -/
theorem afterExec_of_startupPending (i : Instr) (s : State) :
    afterExec i { s with startupPending := true } =
      { afterExec i s with cyc := (afterExec i { s with startupPending := true }).cyc } := rfl

/-- An instruction that has room adds its charge to `CYC` (R101, R103). -/
theorem afterExec_cyc_toNat {i : Instr} {s : State} (h : Fits (Pseudocode.cost i.opcode) s) :
    (afterExec i s).cyc.toNat = s.cyc.toNat + chargeOf (Pseudocode.cost i.opcode) s := addCharge_toNat h

/-- Settles O12: four cycles of room are enough for both runs, whose charges differ by the overhead. -/
theorem firstStepOverhead : Obligations.FirstStepOverhead := by
  intro i s hclear hroom
  have hfits : Fits (Pseudocode.cost i.opcode) s := fits_of_room hroom _
  have hfits' : Fits (Pseudocode.cost i.opcode) { s with startupPending := true } :=
    fits_of_room (s := { s with startupPending := true }) hroom _
  refine ⟨_, _, by rw [exec_eq, if_pos hfits], by rw [exec_eq, if_pos hfits'], ?_, afterExec_of_startupPending i s, rfl⟩
  rw [afterExec_cyc_toNat hfits, afterExec_cyc_toNat hfits']
  simp only [chargeOf, hclear, Bool.false_eq_true, if_false, if_true, Config.startupOverhead]
  omega

/-! ### Where `pc` goes and where the operand is (R104, R106, R107) -/

/-- The instruction fetched has two bytes under 0xA9, otherwise one (R87). -/
theorem fetch_length (s : State) : (fetch s).length = if s.readByte s.pc = 0xA9#8 then 2 else 1 := by
  rw [Instr.length, fetch_operandBytes]
  split <;> rfl

/-- Settles O13: a step moves `pc` by the length of what it fetched. -/
theorem stepIsSequential : Obligations.StepIsSequential := by
  intro s t h
  have hpc : t.pc = s.pc + BitVec.ofNat 16 (fetch s).length := congrArg State.pc (step_next h)
  rw [hpc, fetch_length, BitVec.toNat_add, BitVec.toNat_ofNat, Nat.add_mod_mod]

/-- The address after an address wraps at 2^16 (R107). -/
theorem ofNat_toNat_succ (a : Addr) : BitVec.ofNat 16 ((a.toNat + 1) % 2 ^ 16) = a + 1#16 :=
  BitVec.eq_of_toNat_eq (by rw [BitVec.toNat_ofNat, Nat.mod_mod, BitVec.toNat_add, BitVec.toNat_ofNat, Nat.add_mod_mod])

/-- Settles O14: what is fetched is `LDA` of the byte at the next address, and it has room. -/
theorem ldaOperandFromNextAddress : Obligations.LdaOperandFromNextAddress := by
  intro s hlda hfits
  have hstep : step s = .next (afterExec (.ldaImm (s.readByte (s.pc + 1#16))) s) := by
    rw [step, fetch_of_ldaImm hlda, exec_eq]
    exact if_pos hfits
  refine ⟨_, hstep, ?_, rfl, rfl⟩
  rw [ofNat_toNat_succ]
  rfl

/-! ### What no program writes (R22, R35, R107) -/

/-- The state that no instruction writes: RAM, the image, `SP`, `BTN`, `loaded` and the slots. -/
def State.beyondPrograms (s : State) : Memory × List Byte × Addr × BitVec Config.latchWidth × Bool × Slots :=
  (s.ram, s.rom, s.sp, s.btn, s.loaded, s.slots)

theorem step_beyondPrograms {s t : State} (h : step s = .next t) : t.beyondPrograms = s.beyondPrograms := by
  rw [step_next h]
  rfl

end Sys2Proof.Machine

namespace Sys2Proof.Machine.Session

/-- What every step keeps a whole frame keeps, since its end writes `frame_count` alone (R152). -/
theorem runFrame_beyondPrograms {q : Params} {s t : State} {r : Response} (h : runFrame q s = .next (t, r)) :
    t.beyondPrograms = s.beyondPrograms := by
  rcases runFrame_cases h with ⟨-, rfl, -⟩ | ⟨-, u, b, hbatch, rfl, -⟩
  · rfl
  · have hu : u.beyondPrograms = s.beyondPrograms :=
      runBatch_keeps (P := fun u => u.beyondPrograms = s.beyondPrograms)
        (fun _ _ hu hstep => (step_beyondPrograms hstep).trans hu) rfl hbatch
    exact hu

/-- Settles O45: a frame keeps what is beyond programs, and a read depends on RAM and the image alone. -/
theorem frameKeepsMemory : Obligations.FrameKeepsMemory := by
  intro q s t r h
  have hkeeps := runFrame_beyondPrograms h
  simp only [State.beyondPrograms, Prod.mk.injEq] at hkeeps
  obtain ⟨hram, hrom, hsp, hbtn, hloaded, hslots⟩ := hkeeps
  exact ⟨hram, hrom, hsp, hbtn, hloaded, hslots, State.readByte_congr hram hrom⟩

end Sys2Proof.Machine.Session
end

section
/-! PROOF. `LDA #imm`: the state it leaves, and the frame that it has in common with every other instruction. -/

namespace Sys2Proof.Machine

/-! ### The result of `LDA #imm` (R110) -/

/-- The state `LDA #imm` leaves: `A` and `P` written by the operand byte, `pc` past both bytes (R110). -/
theorem afterExec_ldaImm (v : Byte) (s : State) :
    afterExec (.ldaImm v) s =
      { s with pc := s.pc + 2#16, a := v, p := Config.flagsLda s.p v,
               cyc := s.cyc + BitVec.ofNat 64 (chargeOf Config.costLdaImm s),
               startupPending := false, stepResult := some .continued } := rfl

/-- `LDA #imm` reaches its next state when its cost and the overhead that is due fit (R101, R103). -/
theorem exec_ldaImm_of_fits (v : Byte) {s : State} (hfits : Fits Config.costLdaImm s) :
    exec (.ldaImm v) s = .next (afterExec (.ldaImm v) s) := by
  rw [exec_eq]
  exact if_pos hfits

/-- Settles O16: there is room for the cost 2, and `afterExec` says every field. -/
theorem ldaResult : Obligations.LdaResult := by
  intro v s hfits
  rw [exec_ldaImm_of_fits v hfits, afterExec_ldaImm]
  rfl

/-! ### The frame of an instruction (R107, R110) -/

/-- No instruction writes RAM or the image, so every address reads as before (R107). -/
theorem exec_readByte {i : Instr} {s t : State} (h : exec i s = .next t) (address : Addr) :
    t.readByte address = s.readByte address := by
  obtain ⟨-, rfl⟩ := exec_next h
  exact State.readByte_congr rfl rfl address

/-- Settles O20: `afterExec` copies every field of the list, and no read sees the others. -/
theorem ldaFrame : Obligations.LdaFrame := by
  intro v s t h
  have hread := exec_readByte h
  obtain ⟨-, rfl⟩ := exec_next h
  exact ⟨rfl, rfl, rfl, rfl, rfl, rfl, rfl, rfl, hread⟩

end Sys2Proof.Machine
end

section
/-! PROOF. The instructions without an operand byte, `NOP`, `BRK` and the unassigned opcodes: they write only what every step
writes. -/

namespace Sys2Proof.Machine

/-! ### The frame without an operand byte (R81, R115, R116, R120) -/

/-- An instruction whose opcode is not 0xA9 is its opcode byte alone (R81, R82). -/
theorem operandBytes_implied {i : Instr} (h : i.opcode ≠ 0xA9#8) : i.operandBytes = [] := by
  rcases ldaImm_or_implied i with ⟨v, rfl⟩ | ⟨-, hbytes⟩
  · exact absurd rfl h
  · exact hbytes

/-- Without an operand byte neither `A` nor `P` is written. -/
theorem afterExec_implied {i : Instr} (h : i.opcode ≠ 0xA9#8) (s : State) :
    afterExec i s =
      { s with pc := s.pc + 1#16, cyc := s.cyc + BitVec.ofNat 64 (chargeOf (Pseudocode.cost i.opcode) s),
               startupPending := false, stepResult := some (if i.opcode = 0x00#8 then .halted else .continued) } := by
  simp only [afterExec, Instr.length, operandBytes_implied h]
  rfl

/-- Settles O21: with no operand byte `afterExec` copies `A` and `P` too, and no read sees what it writes. -/
theorem impliedFrame : Obligations.ImpliedFrame := by
  intro i s t hop h
  have hread := exec_readByte h
  obtain ⟨-, rfl⟩ := exec_next h
  rw [afterExec_implied hop] at hread ⊢
  exact ⟨rfl, rfl, rfl, rfl, rfl, rfl, rfl, rfl, rfl, rfl, hread⟩

/-! ### The results of the unassigned opcodes and of `NOP` (R115, R116) -/

/-- Settles O18: the three premises say that the opcode is unassigned, and there is room for its cost 2. -/
theorem unassignedResult : Obligations.UnassignedResult := by
  intro i s hbrk hlda hnop hfits
  have hun : i.unassigned = true := unassigned_iff.mpr ⟨hbrk, hlda, hnop⟩
  rw [exec_unassigned_of_fits hun hfits, afterExec_unassigned hun]
  rfl

/-- `NOP` reaches its next state when its cost and the overhead that is due fit (R101, R103). -/
theorem exec_nop_of_fits {s : State} (hfits : Fits Config.costNop s) : exec .nop s = .next (afterExec .nop s) := by
  rw [exec_eq]
  exact if_pos hfits

/-- Settles O17: there is room for the cost 2, and the state is the one of an instruction without an operand byte. -/
theorem nopResult : Obligations.NopResult := by
  intro s hfits
  have hop : Instr.nop.opcode ≠ 0xA9#8 := by decide
  rw [exec_nop_of_fits hfits, afterExec_implied hop]
  rfl

end Sys2Proof.Machine
end

section
/-! PROOF. The result of `BRK`: the state of an instruction without an operand byte, at cost 0 and with the outcome `Halted`. -/

namespace Sys2Proof.Machine

/-- An instruction reaches its next state when its opcode's cost and the overhead that is due fit (R24, R101, R103). -/
theorem exec_of_fits {i : Instr} {s : State} (hfits : Fits (Pseudocode.cost i.opcode) s) :
    exec i s = .next (afterExec i s) := by
  rw [exec_eq, if_pos hfits]

/-- `BRK` costs nothing, so the overhead that is due is all a step of it adds (R103, R120; the spec's D5). -/
theorem cost_brk : Pseudocode.cost Instr.brk.opcode = 0 := rfl

/-- The state `BRK` leaves: `Halted` is reported one past the opcode, and only the overhead is charged (R101, R120). -/
theorem afterExec_brk (s : State) :
    afterExec .brk s =
      { s with pc := s.pc + 1#16, cyc := s.cyc + BitVec.ofNat 64 (chargeOf 0 s),
               startupPending := false, stepResult := some .halted } := by
  have hop : Instr.brk.opcode ≠ 0xA9#8 := by decide
  rw [afterExec_implied hop, cost_brk]
  rfl

/-- Settles O19: the premise is the room `BRK` needs at its cost 0, and `afterExec_brk` says every field. -/
theorem brkResult : Obligations.BrkResult := by
  intro s hfits
  rw [exec_of_fits (cost_brk.symm ▸ hfits), afterExec_brk]
  rfl

end Sys2Proof.Machine
end

section
/-! PROOF. The frames: the bytes of one, that its index alone determines it, and the frames a session gives. -/

namespace Sys2Proof.Machine

/-! ### The bytes of a frame (R131, R133) -/

/-- A pixel's bytes are divided back into its column, its row and its channel. -/
theorem byteIndex_parts (x : Fin Config.frameWidth) (y : Fin Config.frameHeight) (c : Fin Config.frameChannels) :
    byteIndex x y c / 3 % 256 = x.val ∧ byteIndex x y c / 3 / 256 = y.val ∧ byteIndex x y c % 3 = c.val := by
  have hx : x.val < 256 := x.isLt
  have hc : c.val < 3 := c.isLt
  simp only [byteIndex, Config.frameWidth, Config.frameChannels]
  omega

theorem byteIndex_lt (x : Fin Config.frameWidth) (y : Fin Config.frameHeight) (c : Fin Config.frameChannels) :
    byteIndex x y c < frameBytes := by
  have hx : x.val < 256 := x.isLt
  have hy : y.val < 224 := y.isLt
  have hc : c.val < 3 := c.isLt
  simp only [byteIndex, frameBytes, Config.frameWidth, Config.frameHeight, Config.frameChannels]
  omega

/-- Byte `k` of a frame is a channel of the pattern at the column and row that `k` lies in (R133). -/
theorem renderFrame_getElem (pattern : Pattern) (n : Nat) {k : Nat} (hk : k < frameBytes) :
    (renderFrame pattern n)[k] = channel (pattern (columnOf k) (rowOf ⟨k, hk⟩) n) (k % 3) := by
  unfold renderFrame
  exact Vector.getElem_ofFn hk

/-- The byte of a frame at a pixel's channel is that channel of the pattern (R131, R133). -/
theorem renderFrame_byteIndex (pattern : Pattern) (n : Nat) (x : Fin Config.frameWidth) (y : Fin Config.frameHeight)
    (c : Fin Config.frameChannels) : (renderFrame pattern n)[byteIndex x y c]? = some (channel (pattern x y n) c) := by
  have hlt := byteIndex_lt x y c
  obtain ⟨hx, hy, hc⟩ := byteIndex_parts x y c
  have hcolumn : columnOf (byteIndex x y c) = x := Fin.ext hx
  have hrow : rowOf ⟨byteIndex x y c, hlt⟩ = y := Fin.ext hy
  rw [Vector.getElem?_eq_getElem hlt, renderFrame_getElem, hcolumn, hrow, hc]

/-- Settles O32: the three bytes are those of the channels 0, 1 and 2. -/
theorem framePixels : Obligations.FramePixels := fun pattern n x y =>
  ⟨rfl, renderFrame_byteIndex pattern n x y 0, renderFrame_byteIndex pattern n x y 1,
    renderFrame_byteIndex pattern n x y 2⟩

/-! ### The index of a frame (R30, R132, R152) -/

/-- No step counts a frame (R30). -/
theorem step_frameCount {s t : State} (h : step s = .next t) : t.frameCount = s.frameCount := by
  rw [step_next h]
  rfl

end Sys2Proof.Machine

namespace Sys2Proof.Machine.Session

/-- A batch leaves the index of the frame that follows it as it was (R30, R152). -/
theorem runBatch_frameCount {n k : Nat} {s t : State} {b : Batch} (h : runBatch n k s = .next (t, b)) :
    t.frameCount = s.frameCount :=
  runBatch_keeps (P := fun u => u.frameCount = s.frameCount)
    (fun _ _ hu hstep => (step_frameCount hstep).trans hu) rfl h

/-- The frame a `run_frame` answers is that of the count before it (R152; the spec's D13). -/
theorem runFrame_frame {q : Params} {s t : State} {f : Frame} {b : Batch} (h : runFrame q s = .next (t, .frame f b)) :
    f = renderFrame q.pattern s.frameCount := by
  rcases runFrame_cases h with ⟨-, -, hr⟩ | ⟨-, u, b', hbatch, -, hr⟩
  · cases hr
  · cases hr
    rw [runBatch_frameCount hbatch]

/-- Settles O33: either frame is that of its index, and the indices are equal. -/
theorem framesArePure : Obligations.FramesArePure := by
  intro q s t s' t' f f' b b' hindex h h'
  rw [runFrame_frame h, runFrame_frame h', hindex]

/-! ### The frames of a session (R135, R150, R151, R152) -/

/-- In a loaded session a `run_frame` answers the frame of the count, adds one to it, and leaves the session loaded. -/
theorem runFrame_of_loaded {q : Params} {s t : State} {r : Response} (hs : s.loaded = true)
    (h : runFrame q s = .next (t, r)) :
    t.loaded = true ∧ t.frameCount = s.frameCount + 1 ∧ r.frame? = some (renderFrame q.pattern s.frameCount) := by
  rcases runFrame_cases h with ⟨hunloaded, -, -⟩ | ⟨-, u, b, hbatch, rfl, rfl⟩
  · cases hs.symm.trans hunloaded
  · have hloaded : u.loaded = true :=
      runBatch_keeps (P := fun u => u.loaded = true) (fun _ _ hu hstep => (step_loaded hstep).trans hu) hs hbatch
    rw [State.setFrameCount_frameCount, runBatch_frameCount hbatch]
    exact ⟨hloaded, rfl, rfl⟩

/-- In a loaded session `n` `run_frame`s answer the frames of the `n` indices from the count on. -/
theorem run_runFrames {q : Params} {n : Nat} {s t : State} {rs : List Response} (hs : s.loaded = true)
    (h : run q (List.replicate n .runFrame) s = some (.next (t, rs))) :
    rs.filterMap Response.frame? = (List.range' s.frameCount n).map (renderFrame q.pattern) ∧
      t.frameCount = s.frameCount + n := by
  induction n generalizing s rs with
  | zero =>
    cases h
    exact ⟨rfl, rfl⟩
  | succ n ih =>
    obtain ⟨u, x, rs', hissue, hrun, rfl⟩ := run_cons h
    obtain ⟨hloaded, hcount, hframe⟩ := runFrame_of_loaded hs (perform_of_issue hissue)
    obtain ⟨hframes, hend⟩ := ih hloaded hrun
    rw [hcount] at hframes hend
    rw [List.filterMap_cons_some hframe, hframes, List.range'_succ, List.map_cons]
    exact ⟨rfl, by omega⟩

/-- A reset of a loaded session, and a load that succeeds, begin the count anew in a loaded session, and answer no frame (R150,
R151). -/
theorem perform_begins_session {q : Params} {c : Command} {s t : State} {r : Response}
    (hc : (c = .reset ∧ s.loaded = true) ∨ ∃ image, c = .load (some image)) (h : perform q c s = .next (t, r)) :
    t.loaded = true ∧ t.frameCount = 0 ∧ r.frame? = none := by
  rcases hc with ⟨rfl, hs⟩ | ⟨image, rfl⟩
  · cases h
    exact ⟨hs, rfl, rfl⟩
  · cases h
    exact ⟨rfl, rfl, rfl⟩

/-- Settles O34: the first command sets the count to 0, and each `run_frame` answers the frame of the count and adds one to it. -/
theorem frameSequence : Obligations.FrameSequence := by
  intro q c n s t rs hc h
  obtain ⟨u, x, rs', hissue, hrun, rfl⟩ := run_cons h
  obtain ⟨hloaded, hcount, hnone⟩ := perform_begins_session hc (perform_of_issue hissue)
  obtain ⟨hframes, hend⟩ := run_runFrames hloaded hrun
  rw [hcount] at hframes hend
  rw [List.filterMap_cons_none hnone, hframes, hend, List.range_eq_range', Nat.zero_add]
  exact ⟨rfl, rfl⟩

end Sys2Proof.Machine.Session
end

section
/-! PROOF. The input latch: what a write leaves in it, what a read answers, and that nothing else reads or writes it. -/

namespace Sys2Proof.Machine

/-! ### A write (R28, R141) -/

/-- The latch has room for the ten buttons of R28. -/
theorem two_pow_ten_le_latchWidth : 2 ^ 10 ≤ 2 ^ Config.latchWidth :=
  Nat.pow_le_pow_right Nat.two_pos (Nat.le_add_right 10 Config.extraButtons)

theorem State.setLatch_btn_toNat (s : State) (bitmask : Nat) :
    (s.setLatch bitmask).btn.toNat = bitmask % 2 ^ Config.latchWidth := BitVec.toNat_ofNat bitmask Config.latchWidth

/-- Settles O35: `BTN` becomes the bitmask as a bit vector of the latch's width. -/
theorem latchOverwrite : Obligations.LatchOverwrite := by
  refine ⟨Nat.le_add_right 10 Config.extraButtons, fun s bitmask => ⟨rfl, s.setLatch_btn_toNat bitmask, fun hlt => ?_,
    fun i => BitVec.getLsbD_ofNat Config.latchWidth bitmask i⟩⟩
  rw [State.setLatch_btn_toNat, Nat.mod_eq_of_lt (Nat.lt_of_lt_of_le hlt two_pow_ten_le_latchWidth)]

/-! ### `BTN` replaced before and after (R144, R146) -/

/-- An outcome with `BTN` replaced in the state it reaches. -/
def withBtn {α : Type} (b : BitVec Config.latchWidth) (o : Host.Outcome (State × α) Fault Refusal) :
    Host.Outcome (State × α) Fault Refusal :=
  andThen o fun r => .next (r.1.setBtn b, r.2)

@[simp] theorem withBtn_next {α : Type} (b : BitVec Config.latchWidth) (s : State) (x : α) :
    withBtn b (.next (s, x)) = .next (s.setBtn b, x) := rfl

/-- No step reads or writes `BTN` (the spec's D17). -/
theorem step_setBtn (s : State) (b : BitVec Config.latchWidth) :
    step (s.setBtn b) = andThen (step s) fun t => .next (t.setBtn b) := by
  refine step_of_same_reads (s := s) (u := s.setBtn b) (g := fun t => t.setBtn b) rfl rfl rfl ?_ rfl
  exact State.readByte_congr rfl rfl

theorem State.writePort_setBtn (s : State) (b : BitVec Config.latchWidth) (address value : Int) :
    (s.setBtn b).writePort address value = (s.writePort address value).setBtn b := by
  rw [State.writePort, State.writePort, State.writeByte_eq, State.writeByte_eq]
  rfl

end Sys2Proof.Machine

namespace Sys2Proof.Machine.Session

theorem runBatch_setBtn (n k : Nat) (s : State) (b : BitVec Config.latchWidth) :
    runBatch n k (s.setBtn b) = withBtn b (runBatch n k s) := by
  induction n generalizing k s with
  | zero => rfl
  | succ n ih =>
    rw [runBatch, runBatch, step_setBtn]
    cases step s with
    | next u =>
      simp only [andThen_next]
      split
      next hhalt =>
        rw [if_pos (State.setBtn_stepResult u b ▸ hhalt)]
        rfl
      next hhalt =>
        rw [if_neg (State.setBtn_stepResult u b ▸ hhalt)]
        exact ih (k + 1) (u.setStepResult none)
    | fault r => rfl
    | refused r => rfl

theorem runFrame_setBtn (q : Params) (s : State) (b : BitVec Config.latchWidth) :
    runFrame q (s.setBtn b) = withBtn b (runFrame q s) := by
  rw [runFrame, runFrame, State.setBtn_loaded]
  split
  · rw [runBatch_setBtn]
    cases runBatch q.stepsPerFrame 1 s <;> rfl
  · rfl

theorem loadState_setBtn (slot : Int) (s : State) (b : BitVec Config.latchWidth) :
    loadState slot (s.setBtn b) = ((loadState slot s).1.setBtn b, (loadState slot s).2) := by
  rw [loadState, loadState, State.setBtn_slots]
  split <;> rfl

/-- The stepper neither reads nor writes `BTN`. -/
theorem stepperMove_setBtn (q : Params) (r : FrameRun) (s : State) (b : BitVec Config.latchWidth) :
    stepperMove q r (s.setBtn b) = withBtn b (stepperMove q r s) := by
  rw [stepperMove, stepperMove]
  split
  · rw [step_setBtn]
    cases step s <;> rfl
  · rfl

/-- The only commands that read or write `BTN` are the latch's own two (R144, R146). -/
theorem perform_setBtn {c : Command} (hread : c ≠ .readLatch) (hwrite : ∀ m, c ≠ .setInput m) (q : Params) (s : State)
    (b : BitVec Config.latchWidth) : perform q c (s.setBtn b) = withBtn b (perform q c s) := by
  cases c with
  | load image => cases image <;> rfl
  | runFrame => exact runFrame_setBtn q s b
  | setInput bitmask => exact absurd rfl (hwrite bitmask)
  | loadState slot => rw [perform, loadState_setBtn]; rfl
  | debugWrite address value => rw [perform, State.writePort_setBtn]; rfl
  | readLatch => exact absurd rfl hread
  | reset | saveState | debugRead | readStatus => rfl

/-- Settles O38: none of these commands is the read or the write of the latch. -/
theorem latchOutsideLifeCycles : Obligations.LatchOutsideLifeCycles := by
  intro q c s b hc
  obtain ⟨hread, hwrite⟩ : c ≠ .readLatch ∧ ∀ m, c ≠ .setInput m := by
    rcases hc with ⟨_, rfl⟩ | rfl | ⟨_, rfl⟩ | ⟨_, rfl⟩ | rfl <;> exact ⟨nofun, nofun⟩
  exact perform_setBtn hread hwrite q s b

theorem beginFrame_setBtn (s : State) (b : BitVec Config.latchWidth) :
    beginFrame (s.setBtn b) = ((beginFrame s).1.setBtn b, (beginFrame s).2) := by
  rw [beginFrame, beginFrame, State.setBtn_loaded]
  split <;> rfl

theorem ne_setInput_of_isInput {c : Command} (h : (Move.host c).isInput = false) (bitmask : Nat) : c ≠ .setInput bitmask := by
  rintro rfl
  cases h

/-- Between frames the host has a move for every command (R160). -/
theorem move_host_between_frames {s : State} (h : s.frameRun = none) (q : Params) (c : Command) :
    move q (.host c) s = some (if c = .runFrame then .next (beginFrame s) else perform q c s) := by
  rw [move, if_pos (hasMove_between_frames h c)]

/-- A move that completes does so whatever `BTN` holds, with the same frame and the same state but for `BTN`, unless it is a
`set_input`. -/
theorem move_setBtn {q : Params} {m : Move} {s t : State} {r : Response} (hm : m.isInput = false)
    (h : move q m s = some (.next (t, r))) (b : BitVec Config.latchWidth) :
    ∃ r', move q m (s.setBtn b) = some (.next (t.setBtn b, r')) ∧ r'.frame? = r.frame? := by
  cases m with
  | host c =>
    rcases move_host_cases h with ⟨hframe, rfl, ho⟩ | ⟨hframe, hc, ho⟩ | ⟨bitmask, rfl, -⟩
    · have hframe' : (s.setBtn b).frameRun = none := hframe
      refine ⟨r, ?_, rfl⟩
      rw [move_host_between_frames hframe', if_pos rfl, beginFrame_setBtn, ← Host.Outcome.next.inj ho]
    · have hframe' : (s.setBtn b).frameRun = none := hframe
      rw [move_host_between_frames hframe', if_neg hc]
      by_cases hread : c = .readLatch
      · subst hread
        cases ho
        exact ⟨_, rfl, rfl⟩
      · exact ⟨r, by rw [perform_setBtn hread (ne_setInput_of_isInput hm), ← ho, withBtn_next], rfl⟩
    · cases hm
  | stepper =>
    simp only [move, State.setBtn_frameRun] at h ⊢
    split at h
    next => cases h
    next fr _ => exact ⟨r, by rw [stepperMove_setBtn, Option.some.inj h, withBtn_next], rfl⟩
  | sampleLatch =>
    cases h
    exact ⟨_, rfl, rfl⟩

/-! ### What is read from the latch (R142, R143) -/

/-- No command but `set_input` writes `BTN`. -/
theorem perform_btn {q : Params} {c : Command} {s t : State} {r : Response} (hc : ∀ m, c ≠ .setInput m)
    (h : perform q c s = .next (t, r)) : t.btn = s.btn := by
  by_cases hread : c = .readLatch
  · subst hread
    cases h
    rfl
  · have hself : perform q c s = withBtn s.btn (perform q c s) := perform_setBtn hread hc q s s.btn
    rw [h, withBtn_next] at hself
    exact congrArg (fun x => x.1.btn) (Host.Outcome.next.inj hself)

/-- Only the read of the latch answers a value of the latch, and the value is `BTN`. -/
theorem perform_latch {q : Params} {c : Command} {s t : State} {bits : BitVec Config.latchWidth}
    (h : perform q c s = .next (t, .latch bits)) : c = .readLatch ∧ bits = s.btn := by
  cases c with
  | load image => cases image <;> cases h
  | runFrame => rcases runFrame_cases h with ⟨-, -, hr⟩ | ⟨-, _, _, -, -, hr⟩ <;> cases hr
  | loadState slot =>
    simp only [perform, loadState] at h
    split at h <;> cases h
  | readLatch => cases h; exact ⟨rfl, rfl⟩
  | reset | setInput | saveState | debugRead | debugWrite | readStatus => cases h

theorem beginFrame_ne_latch (s : State) (bits : BitVec Config.latchWidth) : (beginFrame s).2 ≠ .latch bits := by
  unfold beginFrame
  split <;> exact nofun

/-- No move but a `set_input` writes `BTN`. -/
theorem move_btn {q : Params} {m : Move} {s t : State} {r : Response} (hm : m.isInput = false)
    (h : move q m s = some (.next (t, r))) : t.btn = s.btn := by
  obtain ⟨r', hself, -⟩ := move_setBtn hm h s.btn
  have ht : (t, r) = (t.setBtn s.btn, r') := Host.Outcome.next.inj (Option.some.inj (h.symm.trans hself))
  exact congrArg (fun x => x.1.btn) ht

/-- Every value a move reads from the latch is `BTN`. -/
theorem move_latch {q : Params} {m : Move} {s t : State} {bits : BitVec Config.latchWidth}
    (h : move q m s = some (.next (t, .latch bits))) : bits = s.btn := by
  cases m with
  | host c =>
    rcases move_host_cases h with ⟨-, -, ho⟩ | ⟨-, -, ho⟩ | ⟨bitmask, -, ho⟩
    · exact absurd (congrArg Prod.snd (Host.Outcome.next.inj ho)).symm (beginFrame_ne_latch s bits)
    · exact (perform_latch ho.symm).2
    · cases ho
  | stepper =>
    simp only [move] at h
    split at h
    next => cases h
    next =>
      rcases stepperMove_cases (Option.some.inj h) with ⟨-, -, _, -, -, hr⟩ | ⟨-, hend⟩
      · cases hr
      · cases hend
  | sampleLatch => cases h; rfl

/-- Settles O36: by induction over the moves, none of which writes `BTN`. -/
theorem latchRead : Obligations.LatchRead := by
  refine ⟨fun _ _ => ⟨rfl, rfl⟩, fun q ms => ?_⟩
  induction ms with
  | nil =>
    intro s t rs _ h bits hbits
    cases h
    cases hbits
  | cons m ms ih =>
    intro s t rs hms h bits hbits
    obtain ⟨u, x, rs', hmove, hmoves, rfl⟩ := moves_cons h
    obtain ⟨hm, hms⟩ := List.forall_mem_cons.mp hms
    rcases List.mem_cons.mp hbits with rfl | hbits
    · exact move_latch hmove
    · rw [ih u t rs' hms hmoves bits hbits, move_btn hm hmove]

/-- In a run of commands that do not write the latch every value read from it is the `BTN` of the start. -/
theorem run_latch {q : Params} {cs : List Command} {s t : State} {rs : List Response}
    (hcs : ∀ c ∈ cs, ∀ m, c ≠ .setInput m) (h : run q cs s = some (.next (t, rs))) {bits : BitVec Config.latchWidth}
    (hbits : .latch bits ∈ rs) : bits = s.btn := by
  induction cs generalizing s rs with
  | nil =>
    cases h
    cases hbits
  | cons c cs ih =>
    obtain ⟨u, x, rs', hissue, hrun, rfl⟩ := run_cons h
    obtain ⟨hc, hcs⟩ := List.forall_mem_cons.mp hcs
    rcases List.mem_cons.mp hbits with rfl | hbits
    · exact (perform_latch (perform_of_issue hissue)).2
    · rw [ih hcs hrun hbits, perform_btn hc (perform_of_issue hissue)]

/-- After commands that do not read the latch, whatever they write to it, a `set_input` alone tells what later reads return. -/
theorem run_latch_after_setInput {q : Params} {b : Nat} {before after : List Command} {s t : State} {rs : List Response}
    (hbefore : ∀ c ∈ before, c ≠ .readLatch) (hafter : ∀ c ∈ after, ∀ m, c ≠ .setInput m)
    (h : run q (before ++ .setInput b :: after) s = some (.next (t, rs))) {bits : BitVec Config.latchWidth}
    (hbits : .latch bits ∈ rs) : bits.toNat = b % 2 ^ Config.latchWidth := by
  induction before generalizing s rs with
  | nil =>
    obtain ⟨u, x, rs', hissue, hrun, rfl⟩ := run_cons h
    cases perform_of_issue hissue
    rcases List.mem_cons.mp hbits with hx | hbits
    · cases hx
    · rw [run_latch hafter hrun hbits, State.setLatch_btn_toNat]
  | cons c before ih =>
    obtain ⟨u, x, rs', hissue, hrun, rfl⟩ := run_cons h
    obtain ⟨hc, hbefore⟩ := List.forall_mem_cons.mp hbefore
    rcases List.mem_cons.mp hbits with rfl | hbits
    · exact absurd (perform_latch (perform_of_issue hissue)).1 hc
    · exact ih hbefore hrun hbits

/-- Settles O37: the first write is one more command before the second that does not read the latch. -/
theorem latchHasNoQueue : Obligations.LatchHasNoQueue := by
  intro q a b between after s t rs hbetween hafter h bits hbits
  have hbefore : ∀ c ∈ Command.setInput a :: between, c ≠ .readLatch :=
    List.forall_mem_cons.mpr ⟨nofun, fun c hc => (hbetween c hc).1⟩
  exact run_latch_after_setInput hbefore hafter h hbits

/-! ### Moves without their inputs (R61, R144, R145) -/

/-- A `set_input` that lands writes `BTN` alone and answers no frame. -/
theorem move_of_isInput {q : Params} {m : Move} {s t : State} {r : Response} (hm : m.isInput = true)
    (h : move q m s = some (.next (t, r))) : (∃ b, t = s.setBtn b) ∧ r.frame? = none := by
  unfold Move.isInput at hm
  split at hm
  next bitmask =>
    rcases move_host_cases h with ⟨-, hc, -⟩ | ⟨-, -, ho⟩ | ⟨_, -, ho⟩
    · cases hc
    · cases ho
      exact ⟨⟨_, rfl⟩, rfl⟩
    · cases ho
      exact ⟨⟨_, rfl⟩, rfl⟩
  next => cases hm

/-- A move and the moves after it, put together. -/
theorem moves_cons_of_move {q : Params} {m : Move} {ms : List Move} {s u t : State} {x : Response} {rs : List Response}
    (hmove : move q m s = some (.next (u, x))) (hmoves : moves q ms u = some (.next (t, rs))) :
    moves q (m :: ms) s = some (.next (t, x :: rs)) := by
  simp only [moves, hmove, hmoves, andThen_next]

/-- Without its `set_input` moves, and from any `BTN`, a sequence that completes does so with the same frames and the same state
but for `BTN`, which stays what it was. -/
theorem moves_without_inputs {q : Params} {ms : List Move} {s t : State} {rs : List Response}
    (h : moves q ms s = some (.next (t, rs))) (b : BitVec Config.latchWidth) :
    ∃ rs', moves q (ms.filter fun m => !m.isInput) (s.setBtn b) = some (.next (t.setBtn b, rs')) ∧
      rs'.filterMap Response.frame? = rs.filterMap Response.frame? := by
  induction ms generalizing s rs with
  | nil =>
    cases h
    exact ⟨[], rfl, rfl⟩
  | cons m ms ih =>
    obtain ⟨u, x, rs₁, hmove, hmoves, rfl⟩ := moves_cons h
    obtain ⟨rs', hmoves', hframes⟩ := ih hmoves
    cases hm : m.isInput with
    | true =>
      obtain ⟨⟨b', rfl⟩, hnone⟩ := move_of_isInput hm hmove
      rw [List.filter_cons_of_neg (by simp [hm]), List.filterMap_cons_none hnone]
      exact ⟨rs', hmoves', hframes⟩
    | false =>
      obtain ⟨x', hmove', hframe⟩ := move_setBtn hm hmove b
      rw [List.filter_cons_of_pos (by simp [hm])]
      exact ⟨x' :: rs', moves_cons_of_move hmove' hmoves', by rw [List.filterMap_cons, List.filterMap_cons, hframe, hframes]⟩

/-- Settles O39: without its inputs the sequence is run from the `BTN` it starts with. -/
theorem inputsNeverInterfere : Obligations.InputsNeverInterfere := by
  intro q ms s t rs h
  obtain ⟨rs', hmoves, hframes⟩ := moves_without_inputs h s.btn
  exact ⟨t.setBtn s.btn, rs', hmoves, rfl, hframes⟩

end Sys2Proof.Machine.Session
end

section
/-! PROOF. The session's operations: a `run_frame` as steps up to the first halt, and as moves of host and stepper; what `load`,
`reset`, `set_input`, `save_state` and `load_state` write. -/

namespace Sys2Proof.Machine

/-! ### Steps up to the first halt (R152, R153, R181) -/

/-- A step reports `Halted` if and only if it stood at a zero byte (R120, R181). -/
theorem step_halted_iff {s t : State} (h : step s = .next t) : t.stepResult = some .halted ↔ AtHalt s := by
  have hresult : t.stepResult = some (if s.readByte s.pc = 0x00#8 then .halted else .continued) := by
    rw [step_next h, ← fetch_opcode]
    rfl
  rw [hresult, Option.some.injEq]
  split
  next hzero => exact iff_of_true rfl hzero
  next hzero => exact iff_of_false nofun hzero

/-- A step that halts leaves `pc` one past the zero byte (R120; the spec's D5). -/
theorem step_pc_of_atHalt {s t : State} (h : step s = .next t) (hs : AtHalt s) : t.pc = s.pc + 1#16 := by
  have hop : s.readByte s.pc ≠ 0xA9#8 := by rw [hs]; decide
  have hpc : t.pc = s.pc + BitVec.ofNat 16 (fetch s).length := congrArg State.pc (step_next h)
  rw [hpc, fetch_length, if_neg hop]

/-- A step, its result taken, and then `n` more are `n + 1` steps. -/
theorem stepN_succ_of_step {s u : State} (h : step s = .next u) (n : Nat) :
    stepN (n + 1) s = stepN n (u.setStepResult none) := by
  rw [stepN, h, andThen_next]

/-- None of the first `n` steps from `s` stands at a zero byte. -/
def NoHaltBefore (n : Nat) (s : State) : Prop := ∀ j v, j < n → stepN j s = .next v → ¬ AtHalt v

theorem noHaltBefore_zero (s : State) : NoHaltBefore 0 s := fun j _ hj => absurd hj (Nat.not_lt_zero j)

theorem noHaltBefore_succ {n : Nat} {s u : State} (hs : ¬ AtHalt s) (hstep : step s = .next u)
    (h : NoHaltBefore n (u.setStepResult none)) : NoHaltBefore (n + 1) s := by
  intro j v hj hv
  cases j with
  | zero =>
    cases hv
    exact hs
  | succ j =>
    rw [stepN_succ_of_step hstep] at hv
    exact h j v (Nat.lt_of_succ_lt_succ hj) hv

/-- The step after the first `m` is the first from `s` to stand at a zero byte, and it leaves `t`. -/
structure FirstHalt (m : Nat) (s t : State) : Prop where
  before : NoHaltBefore m s
  atHalt : ∃ v, stepN m s = .next v ∧ AtHalt v ∧ t.pc = v.pc + 1#16
  reaches : stepN (m + 1) s = .next t

theorem firstHalt_zero {s u : State} (hs : AtHalt s) (hstep : step s = .next u) : FirstHalt 0 s (u.setStepResult none) where
  before := noHaltBefore_zero s
  atHalt := ⟨s, rfl, hs, (State.setStepResult_pc u none).trans (step_pc_of_atHalt hstep hs)⟩
  reaches := stepN_succ_of_step hstep 0

theorem firstHalt_succ {m : Nat} {s u t : State} (hs : ¬ AtHalt s) (hstep : step s = .next u)
    (h : FirstHalt m (u.setStepResult none) t) : FirstHalt (m + 1) s t where
  before := noHaltBefore_succ hs hstep h.before
  atHalt := stepN_succ_of_step hstep m ▸ h.atHalt
  reaches := (stepN_succ_of_step hstep (m + 1)).trans h.reaches

end Sys2Proof.Machine

namespace Sys2Proof.Machine.Session

/-- The inversion lemma of a batch (R152, R153): the whole budget without a halt, or the steps up to the first halt. -/
theorem runBatch_cases {n k : Nat} {s t : State} {b : Batch} (h : runBatch n k s = .next (t, b)) :
    (b = .completed ∧ stepN n s = .next t ∧ NoHaltBefore n s) ∨
    ∃ m, m < n ∧ b = .haltedAt (k + m) ∧ FirstHalt m s t := by
  induction n generalizing k s with
  | zero =>
    cases h
    exact .inl ⟨rfl, rfl, noHaltBefore_zero _⟩
  | succ n ih =>
    obtain ⟨u, hstep, h⟩ := andThen_eq_next.mp h
    split at h
    next hhalted =>
      cases h
      exact .inr ⟨0, Nat.succ_pos n, rfl, firstHalt_zero ((step_halted_iff hstep).mp hhalted) hstep⟩
    next hhalted =>
      have hs : ¬ AtHalt s := mt (step_halted_iff hstep).mpr hhalted
      rcases ih h with ⟨hb, hsteps, hnone⟩ | ⟨m, hm, hb, hfirst⟩
      · exact .inl ⟨hb, (stepN_succ_of_step hstep n).trans hsteps, noHaltBefore_succ hs hstep hnone⟩
      · exact .inr ⟨m + 1, Nat.succ_lt_succ hm, by rw [hb, Nat.add_assoc, Nat.add_comm 1], firstHalt_succ hs hstep hfirst⟩

/-- A `run_frame` that answers a frame ends a batch in a loaded session, and counts the frame (R152; the spec's D13). -/
theorem runFrame_batch {q : Params} {s t : State} {f : Frame} {b : Batch} (h : runFrame q s = .next (t, .frame f b)) :
    s.loaded = true ∧ ∃ u, runBatch q.stepsPerFrame 1 s = .next (u, b) ∧ t = u.setFrameCount (s.frameCount + 1) := by
  rcases runFrame_cases h with ⟨-, -, hr⟩ | ⟨hloaded, u, b', hbatch, ht, hr⟩
  · cases hr
  · cases hr
    exact ⟨hloaded, u, hbatch, runBatch_frameCount hbatch ▸ ht⟩

/-- Settles O44: the frame ends a batch, which `runBatch_cases` takes apart. -/
theorem frameIsStepsUntilHalt : Obligations.FrameIsStepsUntilHalt := by
  intro q s t f b hidle h
  refine ⟨runFrame_frame h, runFrame_keeps_idle hidle h, ?_⟩
  obtain ⟨-, u, hbatch, rfl⟩ := runFrame_batch h
  rcases runBatch_cases hbatch with ⟨hb, hsteps, hnone⟩ | ⟨m, hm, hb, hfirst⟩
  · exact ⟨q.stepsPerFrame, u, hsteps, rfl, .inl ⟨hb, rfl, hnone⟩⟩
  · exact ⟨m + 1, u, hfirst.reaches, rfl,
      .inr ⟨Nat.add_comm 1 m ▸ hb, Nat.succ_pos m, hm, hfirst.atHalt, hfirst.before⟩⟩

/-! ### A `run_frame` in moves (R60, R61, R152) -/

/-- No step reads or writes what the sequencer notes of a `run_frame`. -/
theorem step_setFrameRun (s : State) (v : Option FrameRun) :
    step (s.setFrameRun v) = andThen (step s) fun t => .next (t.setFrameRun v) := by
  refine step_of_same_reads (s := s) (u := s.setFrameRun v) (g := fun t => t.setFrameRun v) rfl rfl rfl ?_ rfl
  exact State.readByte_congr rfl rfl

/-- While the budget lasts and nothing has halted the stepper's move is a step, noted (R152). -/
theorem move_stepper_step {q : Params} {taken : Nat} {s u : State} (hbudget : taken < q.stepsPerFrame)
    (hstep : step s = .next u) :
    move q .stepper (s.setFrameRun (some ⟨taken, .completed⟩)) =
      some (.next ((u.setStepResult none).setFrameRun
        (some ⟨taken + 1, if u.stepResult = some .halted then .haltedAt (taken + 1) else .completed⟩), .running)) := by
  have hnote : stepperMove q ⟨taken, .completed⟩ (s.setFrameRun (some ⟨taken, .completed⟩)) =
      .next (noteStep ⟨taken, .completed⟩ (u.setFrameRun (some ⟨taken, .completed⟩)), .running) := by
    rw [stepperMove, if_pos ⟨rfl, hbudget⟩, step_setFrameRun, hstep, andThen_next, andThen_next]
  exact congrArg some hnote

/-- `n` moves of the stepper from `s` reach `t`, and the last of them answers `r`. -/
def StepperReaches (q : Params) (n : Nat) (s t : State) (r : Response) : Prop :=
  ∃ rs, moves q (List.replicate n .stepper) s = some (.next (t, rs)) ∧ rs.getLast? = some r

/-- A move and the stepper's moves after it: the last answer is the stepper's. -/
theorem StepperReaches.after_move {q : Params} {m : Move} {n : Nat} {s u t : State} {x r : Response}
    (hmove : move q m s = some (.next (u, x))) (h : StepperReaches q n u t r) :
    ∃ rs, moves q (m :: List.replicate n .stepper) s = some (.next (t, rs)) ∧ rs.getLast? = some r := by
  obtain ⟨rs, hmoves, hlast⟩ := h
  exact ⟨x :: rs, moves_cons_of_move hmove hmoves, by rw [List.getLast?_cons, hlast, Option.getD_some]⟩

/-- Where the budget is used up or a step has halted, the stepper's move ends the `run_frame` with its frame (R152, R153). -/
theorem stepperReaches_end {q : Params} {r : FrameRun} (hend : ¬ (r.batch = .completed ∧ r.taken < q.stepsPerFrame))
    (s : State) :
    StepperReaches q 1 (s.setFrameRun (some r)) (finishFrame q r.batch (s.setFrameRun none)).1
      (finishFrame q r.batch (s.setFrameRun none)).2 := by
  have hfinish : stepperMove q r (s.setFrameRun (some r)) = .next (finishFrame q r.batch (s.setFrameRun none)) := by
    rw [stepperMove, if_neg hend]
    rfl
  exact ⟨_, moves_cons_of_move (ms := []) (congrArg some hfinish) rfl, rfl⟩

/-- The stepper makes what is left of a batch in at most one move a step, and one to end it with its frame. -/
theorem runBatch_stepperReaches {q : Params} {n taken : Nat} {s u : State} {b : Batch}
    (hbudget : taken + n = q.stepsPerFrame) (h : runBatch n (taken + 1) s = .next (u, b)) :
    ∃ m, m ≤ n + 1 ∧ StepperReaches q m (s.setFrameRun (some ⟨taken, .completed⟩))
      (finishFrame q b (u.setFrameRun none)).1 (finishFrame q b (u.setFrameRun none)).2 := by
  induction n generalizing taken s with
  | zero =>
    cases h
    exact ⟨1, Nat.le_refl 1, stepperReaches_end (fun ⟨_, hlt⟩ => Nat.ne_of_lt hlt hbudget) _⟩
  | succ n ih =>
    obtain ⟨w, hstep, h⟩ := andThen_eq_next.mp h
    have hmove := move_stepper_step (q := q) (taken := taken) (by omega) hstep
    split at h
    next hhalted =>
      cases h
      rw [if_pos hhalted] at hmove
      have hend := stepperReaches_end (q := q) (r := ⟨taken + 1, .haltedAt (taken + 1)⟩) nofun (w.setStepResult none)
      exact ⟨2, by omega, hend.after_move hmove⟩
    next hhalted =>
      rw [if_neg hhalted] at hmove
      obtain ⟨m, hm, hrest⟩ := ih (by omega) h
      exact ⟨m + 1, Nat.succ_le_succ hm, hrest.after_move hmove⟩

/-- Settles O51: the host's move begins a batch of the whole budget, which the stepper makes and ends. -/
theorem movesMakeTheFrame : Obligations.MovesMakeTheFrame := by
  intro q s t f b hidle h
  have hframe := runFrame_frame h
  obtain ⟨hloaded, u, hbatch, rfl⟩ := runFrame_batch h
  have hu : Idle u := runBatch_keeps (P := Idle) (fun _ _ => step_keeps_idle) hidle hbatch
  have hself : u.setFrameRun none = u := by rw [State.setFrameRun, ← hu.1]
  have hfinish : finishFrame q b (u.setFrameRun none) = (u.setFrameCount (s.frameCount + 1), .frame f b) := by
    rw [hself, finishFrame, runBatch_frameCount hbatch, hframe]
  have hbegin : move q (.host .runFrame) s = some (.next (s.setFrameRun (some ⟨0, .completed⟩), .running)) := by
    rw [move_host_between_frames hidle.1, if_pos rfl, beginFrame, if_pos hloaded]
  obtain ⟨n, hn, hreaches⟩ := runBatch_stepperReaches (Nat.zero_add _) hbatch
  rw [hfinish] at hreaches
  obtain ⟨rs, hmoves, hlast⟩ := hreaches.after_move hbegin
  exact ⟨n, rs, hn, hmoves, hlast⟩

/-! ### `load`, `reset` and `set_input` (R150, R151, R154, R160, R201) -/

/-- Settles O41: the image and `loaded` are written, then what a reset writes. -/
theorem loadResult : Obligations.LoadResult := fun _ _ _ => rfl

/-- Settles O42: the four updates of `resetSession`, field by field. -/
theorem resetResult : Obligations.ResetResult := fun _ _ => rfl

/-- Settles O49: `set_state` is an update of `BTN`, and during a `run_frame` `hasMove` is `duringFrame`. -/
theorem setInputResult : Obligations.SetInputResult := by
  refine ⟨fun _ _ _ => ⟨rfl, rfl⟩, fun s c hframe => ?_⟩
  obtain ⟨r, hr⟩ := Option.ne_none_iff_exists'.mp hframe
  rw [hasMove_during_frame hr]
  exact ⟨Command.eq_setInput_of_duringFrame, fun ⟨_, hc⟩ => hc ▸ rfl⟩

/-! ### Saved states (R31, R155 to R157) -/

/-- Settles O52: the slots with the snapshot put under its key. -/
theorem saveStateResult : Obligations.SaveStateResult := fun _ s slot hslots =>
  ⟨s.slots.put slot s.snapshot, rfl, Slots.put_wf hslots slot s.snapshot, Slots.find_put_same s.slots slot s.snapshot,
    fun _ hk => Slots.find_put_other s.slots hk s.snapshot⟩

/-- A key that is there has its snapshot restored (R156). -/
theorem loadState_of_find {s : State} {slot : Int} {x : Snapshot} (h : s.slots.find slot = some x) :
    loadState slot s = (s.restore x, .restored) := by
  rw [loadState, h]

/-- Settles O53: without the key `load_state` hands back the state it was given. -/
theorem unknownSlot : Obligations.UnknownSlot := by
  intro q s slot h
  rw [perform, loadState, h]

theorem loadState_slots {slot : Int} {s t : State} {r : Response} (h : loadState slot s = (t, r)) : t.slots = s.slots := by
  unfold loadState at h
  split at h <;> cases h <;> rfl

theorem runFrame_slots {q : Params} {s t : State} {r : Response} (h : runFrame q s = .next (t, r)) : t.slots = s.slots := by
  obtain ⟨-, -, -, -, -, hslots, -⟩ := frameKeepsMemory q s t r h
  exact hslots

/-- Only a save to a key changes what is under it (R31, R155). -/
theorem perform_find {q : Params} {c : Command} {slot : Int} {s t : State} {r : Response} (hc : c ≠ .saveState slot)
    (h : perform q c s = .next (t, r)) : t.slots.find slot = s.slots.find slot := by
  cases c with
  | load image => cases image <;> cases h <;> rfl
  | runFrame => rw [runFrame_slots h]
  | saveState k =>
    cases h
    exact Slots.find_put_other s.slots (fun hk => hc (by rw [hk])) s.snapshot
  | loadState k => rw [loadState_slots (Host.Outcome.next.inj h)]
  | debugWrite address value =>
    cases h
    rw [State.writePort, State.writeByte_eq, State.setRam_slots]
  | reset | setInput | debugRead | readLatch | readStatus => cases h; rfl

/-- What is under a key stays through commands that do not save to it. -/
theorem run_find {q : Params} {cs : List Command} {slot : Int} {s t : State} {rs : List Response}
    (hcs : ∀ c ∈ cs, c ≠ .saveState slot) (h : run q cs s = some (.next (t, rs))) :
    t.slots.find slot = s.slots.find slot := by
  induction cs generalizing s rs with
  | nil =>
    cases h
    rfl
  | cons c cs ih =>
    obtain ⟨u, x, rs', hissue, hrun, -⟩ := run_cons h
    obtain ⟨hc, hcs⟩ := List.forall_mem_cons.mp hcs
    rw [ih hcs hrun, perform_find hc (perform_of_issue hissue)]

/-- Settles O54: the snapshot of the save is still under its key, so it is the one restored, and with it the frame's index. -/
theorem saveLoadRoundTrip : Obligations.SaveLoadRoundTrip := by
  intro q slot cs s t rs hcs h
  obtain ⟨u, x, rs', hissue, hrun, -⟩ := run_cons h
  cases perform_of_issue hissue
  have hfind : t.slots.find slot = some s.snapshot :=
    (run_find hcs hrun).trans (Slots.find_put_same s.slots slot s.snapshot)
  refine ⟨t.restore s.snapshot, ?_, rfl, fun _ _ _ => runFrame_frame (s := t.restore s.snapshot)⟩
  rw [perform, loadState_of_find hfind]

end Sys2Proof.Machine.Session
end

section
/-! PROOF. The machine at creation and until the first load that succeeds; the reset law; an instruction placed for the next step;
that nothing but the overflow of `CYC` stops a session. -/

namespace Sys2Proof.Machine

/-! ### Creation (R34, R200) -/

theorem machineInv_reset : MachineInv State.reset :=
  ⟨Memory.wf_nil, List.Pairwise.nil, fun _ => rfl, countersWf_reset, nofun⟩

theorem unloaded_reset : Unloaded State.reset :=
  ⟨⟨rfl, rfl⟩, rfl, ⟨rfl, rfl, rfl, rfl, rfl, rfl, rfl⟩, nofun⟩

/-- Settles O55: RAM and the slots are empty lists, so every index reads as unlisted and no key is found; the other fields are
written out in `State.reset`. -/
theorem creationState : Obligations.CreationState :=
  ⟨fun _ => rfl, rfl, rfl, rfl, fun _ => rfl, rfl, rfl, rfl, rfl, rfl, rfl, rfl, rfl, rfl⟩

/-- Settles O56: no `run_frame` is in progress at creation, so the session's invariant is the machine's. -/
theorem creationInvariant : Obligations.CreationInvariant := fun _ =>
  ⟨(Session.sessionInv_between_frames_iff.mpr ⟨machineInv_reset, rfl, rfl⟩).1, unloaded_reset⟩

/-! ### What the state's operations keep of `Unloaded` (R202) -/

theorem Unloaded.restore {s : State} {x : Snapshot} (hs : Unloaded s) (hx : x.asCreated) : Unloaded (s.restore x) := by
  obtain ⟨hidle, hloaded, -, hsnapshots⟩ := hs
  exact ⟨hidle, hloaded, hx, hsnapshots⟩

theorem Unloaded.putSlot {s : State} {x : Snapshot} (hs : Unloaded s) (hx : x.asCreated) (k : Int) :
    Unloaded (s.setSlots (s.slots.put k x)) := by
  obtain ⟨hidle, hloaded, hcreated, hsnapshots⟩ := hs
  refine ⟨hidle, hloaded, hcreated, fun e he => ?_⟩
  rcases Slots.mem_put he with rfl | he
  · exact hx
  · exact hsnapshots e he

theorem Unloaded.writePort {s : State} (hs : Unloaded s) (a v : Int) : Unloaded (s.writePort a v) := by
  rw [State.writePort, State.writeByte_eq]
  exact hs

/-! ### An instruction placed for the next step (R82, R100) -/

theorem tableByte_toNat (nbits w k : Nat) : (tableByte nbits w k).toNat = w % 2 ^ nbits / 256 ^ k % 256 :=
  BitVec.toNat_ofNat _ _

/-- The bytes of a table word of two bytes. -/
theorem tableByte_two_bytes (op v : Byte) :
    tableByte 16 (op.toNat + 256 * v.toNat) 0 = op ∧ tableByte 16 (op.toNat + 256 * v.toNat) 1 = v := by
  have hop := op.isLt
  have hv := v.isLt
  exact ⟨BitVec.eq_of_toNat_eq (by rw [tableByte_toNat]; omega), BitVec.eq_of_toNat_eq (by rw [tableByte_toNat]; omega)⟩

/-- The bytes of a table word of one byte: behind it there is nothing but zero. -/
theorem tableByte_one_byte (op : Byte) : tableByte 8 op.toNat 0 = op ∧ tableByte 8 op.toNat 1 = 0x00#8 := by
  have hop := op.isLt
  refine ⟨BitVec.eq_of_toNat_eq (by rw [tableByte_toNat]; omega), BitVec.eq_of_toNat_eq ?_⟩
  rw [tableByte_toNat, BitVec.toNat_ofNat]
  omega

/-- The table word of an instruction gives back its opcode byte, and its operand byte or zero (R81, R82). -/
theorem tableByte_of_instr (i : Instr) :
    tableByte (8 * i.length) (i.opcode.toNat + 256 * (i.operandBytes.headD 0x00#8).toNat) 0 = i.opcode ∧
    tableByte (8 * i.length) (i.opcode.toNat + 256 * (i.operandBytes.headD 0x00#8).toNat) 1 =
      i.operandBytes.headD 0x00#8 := by
  rcases ldaImm_or_implied i with ⟨v, rfl⟩ | ⟨-, hoperand⟩
  · exact tableByte_two_bytes (Instr.ldaImm v).opcode v
  · rw [Instr.length, hoperand]
    exact tableByte_one_byte i.opcode

/-- What is placed is what is fetched: `pc` and the address behind it are backed, and the second byte does not land on the first. -/
theorem fetch_placeInstr {s : State} (hw : s.ram.wf) (op operand : Byte) :
    fetch (s.placeInstr op operand) = decodeInstr op operand := by
  obtain ⟨hpc, hnext, hram⟩ := s.atBackedPc_spec
  have hw₀ : s.atBackedPc.ram.wf := hram.symm ▸ hw
  have hw₁ := State.place_wf hw₀ s.atBackedPc.pc op
  have hne : s.atBackedPc.pc ≠ operandAddress s.atBackedPc.pc := by
    rw [operandAddress]
    bv_omega
  have hat : (s.placeInstr op operand).pc = s.atBackedPc.pc := by
    rw [State.placeInstr, State.place_pc, State.place_pc]
  have hopcode : (s.placeInstr op operand).readByte s.atBackedPc.pc = op := by
    rw [State.placeInstr, State.readByte_place hw₁ hnext, if_neg hne, State.readByte_place hw₀ hpc, if_pos rfl]
  have hoperand : (s.placeInstr op operand).readByte (operandAddress s.atBackedPc.pc) = operand := by
    rw [State.placeInstr, State.readByte_place hw₁ hnext, if_pos rfl]
  rw [fetch, hat, hopcode, hoperand]

/-- Settles O31: the bytes of the table word are placed, fetched and decoded back to the instruction. -/
theorem placedInstructionRunsNext : Obligations.PlacedInstructionRunsNext := by
  intro s i hw
  obtain ⟨hopcode, hoperand⟩ := tableByte_of_instr i
  rw [step, State.withFetchWord, hopcode, hoperand, fetch_placeInstr hw, decodeInstr_opcode]

/-! ### The one way to stop (R24, R182) -/

/-- It answers, or is refused because `CYC` would overflow. -/
def AnswersOrOverflows {α : Type} (o : Host.Outcome α Fault Refusal) : Prop :=
  (∃ x, o = .next x) ∨ o = .refused .cycleCountOverflow

theorem answersOrOverflows_next {α : Type} (x : α) : AnswersOrOverflows (.next x) := .inl ⟨x, rfl⟩

/-- What follows an operation adds no other way to stop. -/
theorem AnswersOrOverflows.andThen {α β : Type} {o : Host.Outcome α Fault Refusal} {f : α → Host.Outcome β Fault Refusal}
    (ho : AnswersOrOverflows o) (hf : ∀ x, AnswersOrOverflows (f x)) : AnswersOrOverflows (andThen o f) := by
  rcases ho with ⟨x, rfl⟩ | rfl
  · exact hf x
  · exact .inr rfl

theorem step_answersOrOverflows (s : State) : AnswersOrOverflows (step s) := by
  rw [step_eq]
  split
  · exact answersOrOverflows_next _
  · exact .inr rfl

end Sys2Proof.Machine

namespace Sys2Proof.Machine.Session

/-! ### Before the first load (R151, R152, R155, R156, R202) -/

theorem runFrame_of_unloaded {s : State} (h : s.loaded = false) (q : Params) : runFrame q s = .next (s, .noFrame) := by
  rw [runFrame, h]
  rfl

theorem resetSession_keeps_unloaded {s : State} (hs : Unloaded s) : Unloaded (resetSession s) := by
  obtain ⟨hidle, hloaded, ⟨-, ha, hsp, hp, -, -, -⟩, hsnapshots⟩ := hs
  exact ⟨hidle, hloaded, ⟨rfl, ha, hsp, hp, rfl, rfl, rfl⟩, hsnapshots⟩

/-- Every snapshot in the slots is as created, so the one restored is (R156). -/
theorem loadState_keeps_unloaded {slot : Int} {s : State} (hs : Unloaded s) :
    Unloaded (loadState slot s).1 ∧ (loadState slot s).2.frame? = none := by
  unfold loadState
  split
  next x hfind =>
    have ⟨_, _, _, hsnapshots⟩ := hs
    exact ⟨hs.restore (hsnapshots (slot, x) (Slots.mem_of_find hfind)), rfl⟩
  next => exact ⟨hs, rfl⟩

/-- Settles O60: `reset`, `save_state`, `load_state` and a debug write keep `Unloaded`, `run_frame` has nothing to run, and the other
commands write nothing that `Unloaded` speaks of. -/
theorem commandsBeforeLoadKeepCreation : Obligations.CommandsBeforeLoadKeepCreation := by
  intro q c s hs hc
  cases c with
  | load image =>
    cases image with
    | none => exact ⟨_, _, rfl, hs, rfl⟩
    | some bytes => exact absurd rfl (hc bytes)
  | reset => exact ⟨_, _, rfl, resetSession_keeps_unloaded hs, rfl⟩
  | runFrame =>
    have ⟨_, hloaded, _, _⟩ := hs
    exact ⟨_, _, runFrame_of_unloaded hloaded q, hs, rfl⟩
  | saveState slot =>
    have ⟨_, _, hcreated, _⟩ := hs
    exact ⟨_, _, rfl, hs.putSlot hcreated slot, rfl⟩
  | loadState slot => exact ⟨_, _, rfl, loadState_keeps_unloaded hs⟩
  | debugWrite address value => exact ⟨_, _, rfl, hs.writePort address value, rfl⟩
  | setInput | debugRead | readLatch | readStatus => exact ⟨_, _, rfl, hs, rfl⟩

/-- What one command before the first load does, a run of them does. -/
theorem run_before_load {q : Params} {cs : List Command} {s t : State} {rs : List Response} (hs : Unloaded s)
    (hcs : ∀ c ∈ cs, ∀ image, c ≠ .load (some image)) (h : run q cs s = some (.next (t, rs))) :
    Unloaded t ∧ rs.filterMap Response.frame? = [] := by
  induction cs generalizing s rs with
  | nil =>
    cases h
    exact ⟨hs, rfl⟩
  | cons c cs ih =>
    obtain ⟨u, x, rs', hissue, hrun, rfl⟩ := run_cons h
    obtain ⟨hc, hcs⟩ := List.forall_mem_cons.mp hcs
    obtain ⟨u', x', hperform, hu, hnone⟩ := commandsBeforeLoadKeepCreation q c s hs hc
    cases (perform_of_issue hissue).symm.trans hperform
    rw [List.filterMap_cons_none hnone]
    exact ih hu hcs hrun

/-- Settles O48: the machine at creation is `Unloaded`, and so it stays. -/
theorem nothingRunsBeforeLoad : Obligations.NothingRunsBeforeLoad := by
  intro q cs t rs hcs h
  obtain ⟨⟨-, hloaded, ⟨hpc, ha, hsp, hp, hcyc, hdue, hcount⟩, -⟩, hframes⟩ := run_before_load unloaded_reset hcs h
  exact ⟨hloaded, hpc, ha, hsp, hp, hcyc, hdue, hcount, hframes, runFrame_of_unloaded hloaded q⟩

/-! ### The reset law (R151, R209) -/

/-- Settles O43: the reset and the load both begin the count anew, and equal counts give equal frames. -/
theorem resetLaw : Obligations.ResetLaw := by
  intro q s s' t t' u u' image f f' b b' hloaded hreset hframe hload hframe'
  obtain ⟨-, hcount, -⟩ := perform_begins_session (.inl ⟨rfl, hloaded⟩) hreset
  obtain ⟨-, hcount', -⟩ := perform_begins_session (.inr ⟨image, rfl⟩) hload
  refine ⟨by rw [runFrame_frame hframe, runFrame_frame hframe', hcount, hcount'], ?_⟩
  cases hreset
  exact ⟨rfl, State.readByte_congr rfl rfl⟩

/-! ### A session never fails but for the overflow of `CYC` (R24, R182) -/

/-- A batch for which `CYC` has room, 2 a step and the start-up overhead that is due, answers. -/
theorem runBatch_of_room {n k : Nat} {s : State} (hroom : s.cyc.toNat + chargeOf 0 s + 2 * n < 2 ^ 64) :
    ∃ t b, runBatch n k s = .next (t, b) := by
  induction n generalizing k s with
  | zero => exact ⟨s, .completed, rfl⟩
  | succ n ih =>
    have hcost := cost_le_two (s.readByte s.pc)
    have hfits : Fits (Pseudocode.cost (s.readByte s.pc)) s := by
      rw [Fits, chargeOf_eq_overhead_add]
      omega
    have hstep : step s = .next (afterExec (fetch s) s) := by rw [step_eq, if_pos hfits]
    have hcyc := step_cyc hstep
    have hdue : chargeOf 0 ((afterExec (fetch s) s).setStepResult none) = 0 := rfl
    rw [chargeOf_eq_overhead_add] at hcyc
    rw [runBatch, hstep, andThen_next]
    split
    · exact ⟨_, _, rfl⟩
    · exact ih (by rw [hdue, State.setStepResult_cyc]; omega)

/-- A `run_frame` of a loaded session whose `CYC` has room answers a frame, completed or halted within the budget (R182). -/
theorem runFrame_of_room {q : Params} {s : State} (hloaded : s.loaded = true)
    (hroom : s.cyc.toNat + 2 + 2 * q.stepsPerFrame < 2 ^ 64) :
    ∃ t f b, runFrame q s = .next (t, .frame f b) ∧ (b = .completed ∨ ∃ k, b = .haltedAt k ∧ k ≤ q.stepsPerFrame) := by
  have hdue := overhead_le_two s
  obtain ⟨u, b, hbatch⟩ := runBatch_of_room (n := q.stepsPerFrame) (k := 1) (s := s) (by omega)
  refine ⟨_, _, b, by rw [runFrame, if_pos hloaded, hbatch, andThen_next]; rfl, ?_⟩
  rcases runBatch_cases hbatch with ⟨hb, -, -⟩ | ⟨m, hm, hb, -⟩
  · exact .inl hb
  · exact .inr ⟨1 + m, hb, by omega⟩

theorem runBatch_answersOrOverflows (n k : Nat) (s : State) : AnswersOrOverflows (runBatch n k s) := by
  induction n generalizing k s with
  | zero => exact answersOrOverflows_next _
  | succ n ih =>
    refine (step_answersOrOverflows s).andThen fun u => ?_
    split
    · exact answersOrOverflows_next _
    · exact ih _ _

/-- Only a `run_frame` makes steps, so only it can be refused. -/
theorem perform_answersOrOverflows (q : Params) (c : Command) (s : State) : AnswersOrOverflows (perform q c s) := by
  cases c with
  | runFrame =>
    rw [perform, runFrame]
    split
    · exact (runBatch_answersOrOverflows _ _ _).andThen fun _ => answersOrOverflows_next _
    · exact answersOrOverflows_next _
  | _ => exact answersOrOverflows_next _

theorem runFrame_frameRun {q : Params} {s t : State} {r : Response} (h : runFrame q s = .next (t, r)) :
    t.frameRun = s.frameRun := by
  rcases runFrame_cases h with ⟨-, rfl, -⟩ | ⟨-, u, b, hbatch, rfl, -⟩
  · rfl
  · have hu : u.frameRun = s.frameRun :=
      runBatch_keeps (P := fun u => u.frameRun = s.frameRun)
        (fun v w hv hstep => by rw [State.setStepResult_frameRun, step_next hstep, afterExec_frameRun, hv]) rfl hbatch
    exact hu

/-- No command performed whole begins or ends a `run_frame` in moves. -/
theorem perform_frameRun {q : Params} {c : Command} {s t : State} {r : Response} (h : perform q c s = .next (t, r)) :
    t.frameRun = s.frameRun := by
  cases c with
  | load image => cases image <;> cases h <;> rfl
  | runFrame => exact runFrame_frameRun h
  | loadState slot =>
    simp only [perform, loadState] at h
    split at h <;> cases h <;> rfl
  | debugWrite address value =>
    cases h
    exact s.writePort_frameRun address value
  | reset | setInput | saveState | debugRead | readLatch | readStatus => cases h; rfl

/-- A command issued between frames, when it answers, leaves the rest of the run to be made from the state it answers. -/
theorem run_cons_of_perform {q : Params} {c : Command} {cs : List Command} {s u : State} {x : Response}
    {o : Host.Outcome (State × List Response) Fault Refusal} (hframe : s.frameRun = none)
    (hperform : perform q c s = .next (u, x)) (hrun : run q cs u = some o) :
    run q (c :: cs) s = some (andThen o fun v => .next (v.1, x :: v.2)) := by
  simp only [run, issue, if_pos (hasMove_between_frames hframe c), hperform, hrun]

/-- A command refused between frames ends the run. -/
theorem run_cons_of_refused {q : Params} {c : Command} {s : State} {e : Refusal} (hframe : s.frameRun = none)
    (hperform : perform q c s = .refused e) (cs : List Command) : run q (c :: cs) s = some (.refused e) := by
  simp only [run, issue, if_pos (hasMove_between_frames hframe c), hperform]

/-- Between frames every command has a move and leaves the machine between frames, so a run of any commands goes through or is
refused. -/
theorem run_answersOrOverflows (q : Params) (cs : List Command) {s : State} (hframe : s.frameRun = none) :
    ∃ o, run q cs s = some o ∧ AnswersOrOverflows o := by
  induction cs generalizing s with
  | nil => exact ⟨_, rfl, answersOrOverflows_next _⟩
  | cons c cs ih =>
    rcases perform_answersOrOverflows q c s with ⟨⟨u, x⟩, hperform⟩ | hperform
    · obtain ⟨o, hrun, ho⟩ := ih ((perform_frameRun hperform).trans hframe)
      exact ⟨_, run_cons_of_perform hframe hperform hrun, ho.andThen fun _ => answersOrOverflows_next _⟩
    · exact ⟨_, run_cons_of_refused hframe hperform cs, .inr rfl⟩

/-- Settles O47: room for a frame is room for every step of its batch; without it, each command of a run answers or is refused. -/
theorem sessionsNeverFail : Obligations.SessionsNeverFail := by
  refine ⟨fun _ _ => runFrame_of_room, fun q cs s hframe => ?_⟩
  obtain ⟨o, hrun, ⟨⟨t, rs⟩, rfl⟩ | rfl⟩ := run_answersOrOverflows q cs hframe
  · exact .inl ⟨t, rs, hrun⟩
  · exact .inr hrun

end Sys2Proof.Machine.Session
end
